-- ==== Sys2Proof/Word.lean ====
section
/-! DEFINITION. The word types of the core: a byte of the operation queue, a register word, a sample position,
an amplitude and a syndrome (spec/10_state.md R22 to R31, spec/45_parity_checker.md R190). -/

namespace Sys2Proof

/-- One byte of the model's operation queue. -/
abbrev Byte := BitVec 8

/-- A word of the register window (20_memory R54). -/
abbrev Word := BitVec 32

/-- A sample position: a value of `pos` (10_state R22). -/
abbrev Pos := BitVec 64

/-- An envelope amplitude (00_scope R6, `AMP_W`). -/
abbrev Amp := BitVec 16

/-- A half-slot energy (00_scope R6, `E_W`; 43_framer R165). -/
abbrev Energy := BitVec 18

/-- A 24-bit remainder: a parity value or a syndrome (45_parity_checker R190). -/
abbrev Syndrome := BitVec 24

end Sys2Proof
end

