-- ==== Sys2Proof/Config.lean ====
section
/-! DEFINITION. The build-time parameters of one core, the only variation between instances
(spec/00_scope.md R2, R6; the list "Open parameters" of spec/92_eei_decisions.md). Everything else of R6 is fixed and
stands in Machine/Operands.lean. No value of the spec is left open, so there is no free value here. -/

namespace Sys2Proof

/-- The rows of 00_scope R6 marked *parameter*. Queue depths are left out: they are not observable (20_memory R59). -/
structure Params where
  /-- `PRE_R[0..3]`: preamble rising-edge offsets in half-slots (30_encoding R81). -/
  preR : Vector Nat 4
  /-- `PRE_F[0..3]`: preamble falling-edge offsets in half-slots (30_encoding R81). -/
  preF : Vector Nat 4
  /-- `IS_LONG` as a table: bit `df` says whether format number `df` has a long frame (30_encoding R86). -/
  isLong : BitVec 32
  /-- `CRC_POLY`: coefficients of `x^23 .. x^0` of the generator, `x^24` implied (45_parity_checker R190). -/
  crcPoly : BitVec 24
  /-- `MAX_DIST`: the distance budget of the corrector (46_error_corrector R200). -/
  maxDist : Nat
  deriving DecidableEq, Repr

/-- The defaults of 00_scope R6. PRESUMED, unsafe: the spec takes `preR`, `preF`, `isLong` and `crcPoly` from
general knowledge (93_implementation_defined G1 to G4; notes/assumptions/9.md). -/
def Params.default : Params where
  preR := #v[0, 2, 7, 9]
  preF := #v[1, 3, 8, 10]
  isLong := 0xFFFF0000
  crcPoly := 0xFFF409
  maxDist := 2

end Sys2Proof
end

