-- ==== Sys2Proof/Syntax.lean ====
section
/-! DEFINITION. The records that pass between the stages and at the ports (spec/30_encoding.md R71 to R79) and the
operations of the core, one constructor per row of spec/opcode_table.json (R90, R86). -/

namespace Sys2Proof

/-- The operating rate, one bit: `rate_sel` and `chan_rate` (00_scope R6, `RATE(rate_sel)`). -/
inductive Rate where
  /-- `rate_sel = 0`: 8,000,000 samples per second. -/
  | msps8
  /-- `rate_sel = 1`: 10,000,000 samples per second. -/
  | msps10
  deriving DecidableEq, Repr

/-- Sample (30_encoding R71). -/
structure Sample where
  i : BitVec 16
  q : BitVec 16
  bad : Bool
  deriving DecidableEq, Repr

/-- Envelope Sample (30_encoding R72). -/
structure EnvSample where
  amp : Amp
  bad : Bool
  deriving DecidableEq, Repr

/-- The kind of a PulseEdge (30_encoding R73). -/
inductive EdgeKind where
  | rising
  | falling
  deriving DecidableEq, Repr

/-- PulseEdge (30_encoding R73): half of the pair view of a Pulse. -/
structure PulseEdge where
  position : Pos
  kind : EdgeKind
  amplitude : Amp
  deriving DecidableEq, Repr

/-- Pulse (30_encoding R74); `stop` is the spec's `end`. -/
structure Pulse where
  start : Pos
  stop : Pos
  width : BitVec 4
  amp : Amp
  famp : Amp
  deriving DecidableEq, Repr

/-- Anchor (30_encoding R75). -/
structure Anchor where
  position : Pos
  chanRate : Rate
  confidence : BitVec 4
  deriving DecidableEq, Repr

/-- Slot observation (30_encoding R76). -/
structure SlotObs where
  e1 : Energy
  e2 : Energy
  b1 : Bool
  b2 : Bool
  j : BitVec 7
  deriving DecidableEq, Repr

/-- Symbol (30_encoding R77); code 3 is never produced. -/
inductive Sym where
  | zero
  | one
  | ambig
  deriving DecidableEq, Repr

/-- The two frame lengths: the one bit `bit_count` or `f_long` (30_encoding R78, R79; 00_scope R6 `N_SHORT`, `N_LONG`). -/
inductive FrameLen where
  /-- 56 bit-slots. -/
  | short
  /-- 112 bit-slots. -/
  | long
  deriving DecidableEq, Repr

/-- Frame Candidate (30_encoding R78): `sym` holds the symbols `0 .. bit_count - 1` in frame order. -/
structure Candidate where
  anchor : Anchor
  len : FrameLen
  sym : List Sym
  nAmb : BitVec 7
  deriving DecidableEq, Repr

/-- `parity_status` (30_encoding R79); code 3 is never produced. -/
inductive ParityStatus where
  | clean
  | corrected
  | invalid
  deriving DecidableEq, Repr

/-- Decoded Frame, the frame port record (30_encoding R79). -/
structure DecodedFrame where
  bits : BitVec 112
  long : FrameLen
  status : ParityStatus
  dist : BitVec 2
  position : Pos
  deriving DecidableEq, Repr

/-- The operations of the core. A stage operation carries the record that triggers it (30_encoding R90); a command
carries bits 31:2 of its write data, which the core ignores (R84); FMT.SHORT and FMT.LONG carry the four low bits of
the format field, `fb(1)..fb(4)` (R86). -/
inductive Instr where
  /-- MAG (40_magnitude R100). -/
  | mag (smp : Sample)
  /-- EDGE (41_pulse_detector R111). -/
  | edge (e : EnvSample)
  /-- SYNC (42_preamble_sync R141). -/
  | sync (p : Pulse)
  /-- FRAME.OPEN (43_framer R161). -/
  | frameOpen (a : Anchor)
  /-- FRAME.ACC (43_framer R164). -/
  | frameAcc (e : EnvSample)
  /-- FRAME.LEN (43_framer R167). -/
  | frameLen
  /-- PPM (44_ppm_decoder R181). -/
  | ppm (obs : SlotObs)
  /-- CRC (45_parity_checker R192). -/
  | crc (c : Candidate)
  /-- FIX (46_error_corrector R202): the candidate, its provisional bits, its syndrome. -/
  | fix (c : Candidate) (v : List Bool) (syn : Syndrome)
  /-- EMIT (46_error_corrector R207): anchor, length, final bits, status, distance. -/
  | emit (a : Anchor) (len : FrameLen) (w : List Bool) (st : ParityStatus) (dist : BitVec 2)
  /-- RESET (70_reset_and_hazards R270). -/
  | reset
  /-- WRCFG (47_host_commands R221): a register write. -/
  | wrcfg (off : Word) (v : Word)
  /-- RDREG (47_host_commands R222): a register read. -/
  | rdreg (off : Word)
  /-- START (47_host_commands R223). -/
  | start (ign : BitVec 30)
  /-- STOP (47_host_commands R225). -/
  | stop (ign : BitVec 30)
  /-- CLEAR (47_host_commands R227). -/
  | clear (ign : BitVec 30)
  /-- NOP (47_host_commands R229). -/
  | nop (ign : BitVec 30)
  /-- PUSH (47_host_commands R224). -/
  | push (smp : Sample)
  /-- POP (47_host_commands R228). -/
  | pop
  /-- FMT.SHORT (30_encoding R86): format field `0xxxx`. -/
  | fmtShort (low : BitVec 4)
  /-- FMT.LONG (30_encoding R86): format field `1xxxx`. -/
  | fmtLong (low : BitVec 4)
  deriving DecidableEq, Repr

end Sys2Proof
end

