-- ==== Sys2Proof/WellFormed.lean ====
section
/-! DEFINITION. Which operand records are records of spec/30_encoding.md: the checks that the types of Syntax.lean do
not make. The decoder answers only well-formed instructions. -/

namespace Sys2Proof

/-- `N_SHORT`, `N_LONG`: the number of bit-slots of a frame (00_scope R6). -/
def FrameLen.slots : FrameLen → Nat
  | .short => 56
  | .long => 112

/-- Why an operand is no record of 30_encoding. -/
inductive IllFormed where
  /-- An envelope sample with `bad = 1` and an amplitude other than 0 (R72). -/
  | ampOfBad
  /-- An amplitude above 46340 (R72). -/
  | ampRange
  /-- A pulse whose width is not `end - start` (R74). -/
  | pulseWidth
  /-- A slot index above 111 (R76). -/
  | slotIndex
  /-- A candidate that does not hold `bit_count` symbols (R78). -/
  | symCount
  /-- A candidate whose `n_amb` is not its number of AMBIG symbols (R78). -/
  | ambigCount
  /-- A bit vector that does not hold one bit per slot of the frame (R80). -/
  | bitCount
  /-- A distance that is 0 with status corrected, or not 0 with another status (R79). -/
  | statusDist
  /-- A register write to the offset of `CMD`: that is START, STOP, CLEAR or NOP, not WRCFG (R84). -/
  | commandOffset
  deriving DecidableEq, Repr

/-- 30_encoding R72. -/
def EnvSample.illFormed (e : EnvSample) : Option IllFormed :=
  if e.bad && e.amp != 0 then some .ampOfBad
  else if 46340 < e.amp.toNat then some .ampRange
  else none

/-- 30_encoding R74. -/
def Pulse.illFormed (p : Pulse) : Option IllFormed :=
  if p.stop - p.start = p.width.setWidth 64 then none else some .pulseWidth

/-- 30_encoding R76. -/
def SlotObs.illFormed (o : SlotObs) : Option IllFormed :=
  if o.j.toNat < 112 then none else some .slotIndex

/-- 30_encoding R78. -/
def Candidate.illFormed (c : Candidate) : Option IllFormed :=
  if c.sym.length ≠ c.len.slots then some .symCount
  else if c.sym.count .ambig ≠ c.nAmb.toNat then some .ambigCount
  else none

/-- The first check that an instruction's operands fail, if one does. -/
def Instr.illFormed : Instr → Option IllFormed
  | .mag _ => none
  | .edge e => e.illFormed
  | .sync p => p.illFormed
  | .frameOpen _ => none
  | .frameAcc e => e.illFormed
  | .frameLen => none
  | .ppm o => o.illFormed
  | .crc c => c.illFormed
  | .fix c v _ =>
    match c.illFormed with
    | some e => some e
    | none => if v.length = c.len.slots then none else some .bitCount
  | .emit _ len w st dist =>
    if w.length ≠ len.slots then some .bitCount
    else if st = .corrected ↔ dist ≠ 0 then none
    else some .statusDist
  | .reset => none
  | .wrcfg off _ => if off = 0x08 then some .commandOffset else none
  | .rdreg _ => none
  | .start _ => none
  | .stop _ => none
  | .clear _ => none
  | .nop _ => none
  | .push _ => none
  | .pop => none
  | .fmtShort _ => none
  | .fmtLong _ => none

/-- Every operand is a record of 30_encoding. -/
abbrev Instr.WellFormed (i : Instr) : Prop := i.illFormed = none

end Sys2Proof
end

