-- ==== Sys2Proof/Decode.lean ====
section
/-! DEFINITION. The bit layouts of the records (spec/30_encoding.md R71 to R79), the byte form in which operations wait
in the model's queue, its decoder and its encoder. The hardware fetches no instruction (R70, R90): the op ids and the
record layouts are the spec's, their packing into bytes is the model's (DESIGN CHOICE, notes/assumptions/2.md). -/

namespace Sys2Proof

/-- Why bytes decode to no operation. -/
inductive DecodeError where
  /-- No byte is left. -/
  | noBytes
  /-- The first byte is an id that 30_encoding R90 leaves unassigned, or no tag at all. -/
  | unassigned (tag : Byte)
  /-- Fewer bytes are left than the operation's records take. -/
  | truncated
  /-- A bit above the last field of a record is set. -/
  | padding
  /-- A code that 30_encoding R87 says is never produced: symbol 3 or parity status 3. -/
  | reservedCode
  /-- The operands are no records of 30_encoding. -/
  | illFormed (why : IllFormed)
  deriving DecidableEq, Repr

/-! ## Numbers as bytes, least significant byte first -/

/-- The low `k` bytes of `n`. -/
def leBytes : Nat → Nat → List Byte
  | 0, _ => []
  | k + 1, n => BitVec.ofNat 8 n :: leBytes k (n / 256)

/-- The number whose bytes are given. -/
def ofLE : List Byte → Nat
  | [] => 0
  | b :: bs => b.toNat + 256 * ofLE bs

/-- How many bytes a record of `w` bits takes. -/
def byteLen (w : Nat) : Nat := (w + 7) / 8

/-- A record of `w` bits as bytes. -/
def putRec {w : Nat} (x : BitVec w) : List Byte := leBytes (byteLen w) x.toNat

/-- A record of `w` bits from the front of the bytes; the bits above it must be 0. -/
def getRec (w : Nat) (bs : List Byte) : Except DecodeError (BitVec w × List Byte) :=
  if bs.length < byteLen w then .error .truncated
  else if ofLE (bs.take (byteLen w)) < 2 ^ w then
    .ok (BitVec.ofNat w (ofLE (bs.take (byteLen w))), bs.drop (byteLen w))
  else .error .padding

/-! ## Codes and record layouts -/

/-- `rate_sel`, `chan_rate` as a bit (30_encoding R75, R82). -/
def Rate.toBit : Rate → Bool
  | .msps8 => false
  | .msps10 => true

/-- The rate a bit selects (30_encoding R75, R82). -/
def Rate.ofBit (b : Bool) : Rate := if b then .msps10 else .msps8

/-- `kind` (30_encoding R73). -/
def EdgeKind.toBit : EdgeKind → Bool
  | .rising => false
  | .falling => true

/-- `bit_count`, `f_long` as a bit (30_encoding R78, R79). -/
def FrameLen.toBit : FrameLen → Bool
  | .short => false
  | .long => true

/-- The frame length a bit stands for (30_encoding R78, R79). -/
def FrameLen.ofBit (b : Bool) : FrameLen := if b then .long else .short

/-- Symbol codes (30_encoding R77). -/
def Sym.code : Sym → Nat
  | .zero => 0
  | .one => 1
  | .ambig => 2

/-- The symbol of a code; code 3 is reserved (30_encoding R77). -/
def Sym.ofCode : Nat → Option Sym
  | 0 => some .zero
  | 1 => some .one
  | 2 => some .ambig
  | _ => none

/-- `parity_status` codes (30_encoding R79). -/
def ParityStatus.toBits : ParityStatus → BitVec 2
  | .clean => 0
  | .corrected => 1
  | .invalid => 2

/-- The status of a code; code 3 is reserved (30_encoding R79). -/
def ParityStatus.ofBits (b : BitVec 2) : Option ParityStatus :=
  if b = 0 then some .clean else if b = 1 then some .corrected
  else if b = 2 then some .invalid else none

/-- 30_encoding R71: `bad` 32, `q` 31:16, `i` 15:0. -/
def Sample.toBits (s : Sample) : BitVec 33 := BitVec.ofBool s.bad ++ s.q ++ s.i

/-- 30_encoding R71. -/
def Sample.ofBits (b : BitVec 33) : Sample :=
  { i := b.extractLsb' 0 16, q := b.extractLsb' 16 16, bad := b.getLsbD 32 }

/-- 30_encoding R72: `bad` 16, `amp` 15:0. -/
def EnvSample.toBits (e : EnvSample) : BitVec 17 := BitVec.ofBool e.bad ++ e.amp

/-- 30_encoding R72. -/
def EnvSample.ofBits (b : BitVec 17) : EnvSample :=
  { amp := b.extractLsb' 0 16, bad := b.getLsbD 16 }

/-- 30_encoding R73: `amplitude` 80:65, `kind` 64, `position` 63:0. -/
def PulseEdge.toBits (e : PulseEdge) : BitVec 81 :=
  e.amplitude ++ BitVec.ofBool e.kind.toBit ++ e.position

/-- 30_encoding R74 gives the fields of a Pulse and their widths; they lie in the order it lists them, `start` lowest
(DESIGN CHOICE, notes/assumptions/2.md). -/
def Pulse.toBits (p : Pulse) : BitVec 164 := p.famp ++ p.amp ++ p.width ++ p.stop ++ p.start

/-- The inverse of `Pulse.toBits`. -/
def Pulse.ofBits (b : BitVec 164) : Pulse :=
  { start := b.extractLsb' 0 64, stop := b.extractLsb' 64 64, width := b.extractLsb' 128 4,
    amp := b.extractLsb' 132 16, famp := b.extractLsb' 148 16 }

/-- 30_encoding R75: `confidence` 68:65, `chan_rate` 64, `position` 63:0. -/
def Anchor.toBits (a : Anchor) : BitVec 69 :=
  a.confidence ++ BitVec.ofBool a.chanRate.toBit ++ a.position

/-- 30_encoding R75. -/
def Anchor.ofBits (b : BitVec 69) : Anchor :=
  { position := b.extractLsb' 0 64, chanRate := Rate.ofBit (b.getLsbD 64),
    confidence := b.extractLsb' 65 4 }

/-- 30_encoding R76: `j` 44:38, `B2` 37, `B1` 36, `E2` 35:18, `E1` 17:0. -/
def SlotObs.toBits (o : SlotObs) : BitVec 45 :=
  o.j ++ BitVec.ofBool o.b2 ++ BitVec.ofBool o.b1 ++ o.e2 ++ o.e1

/-- 30_encoding R76. -/
def SlotObs.ofBits (b : BitVec 45) : SlotObs :=
  { e1 := b.extractLsb' 0 18, e2 := b.extractLsb' 18 18, b1 := b.getLsbD 36, b2 := b.getLsbD 37,
    j := b.extractLsb' 38 7 }

/-- 30_encoding R79: `position` 180:117, `correction_distance` 116:115, `parity_status` 114:113, `long` 112,
`bits` 111:0. These are the frame port signals `f_pos`, `f_dist`, `f_status`, `f_long`, `f_bits`. -/
def DecodedFrame.toBits (f : DecodedFrame) : BitVec 181 :=
  f.position ++ f.dist ++ f.status.toBits ++ BitVec.ofBool f.long.toBit ++ f.bits

/-- The fixed part of a Frame Candidate: `n_amb` 76:70, `bit_count` 69, `anchor` 68:0 (the order 30_encoding R78 lists
the fields in; DESIGN CHOICE, notes/assumptions/2.md). -/
def Candidate.head (c : Candidate) : BitVec 77 :=
  c.nAmb ++ BitVec.ofBool c.len.toBit ++ c.anchor.toBits

/-- Two bits a symbol, symbol 0 lowest (30_encoding R77, R78). -/
def symsNat : List Sym → Nat
  | [] => 0
  | s :: l => s.code + 4 * symsNat l

/-- `n` symbols from a number, symbol 0 lowest. -/
def symsOf : Nat → Nat → Option (List Sym)
  | 0, _ => some []
  | n + 1, x =>
    match Sym.ofCode (x % 4), symsOf n (x / 4) with
    | some s, some l => some (s :: l)
    | _, _ => none

/-- A bit vector in frame order as a number, `fb(0)` lowest. -/
def bitsNat : List Bool → Nat
  | [] => 0
  | b :: l => b.toNat + 2 * bitsNat l

/-- `n` bits from a number, `fb(0)` lowest. -/
def bitsOf : Nat → Nat → List Bool
  | 0, _ => []
  | n + 1, x => (x % 2 == 1) :: bitsOf n (x / 2)

/-- A Frame Candidate as bytes. -/
def putCand (c : Candidate) : List Byte := putRec c.head ++ leBytes (c.len.slots / 4) (symsNat c.sym)

/-- A Frame Candidate from the front of the bytes. -/
def getCand (bs : List Byte) : Except DecodeError (Candidate × List Byte) :=
  match getRec 77 bs with
  | .error e => .error e
  | .ok (h, r) =>
    let len := FrameLen.ofBit (h.getLsbD 69)
    if r.length < len.slots / 4 then .error .truncated
    else
      match symsOf len.slots (ofLE (r.take (len.slots / 4))) with
      | none => .error .reservedCode
      | some sym =>
        .ok ({ anchor := Anchor.ofBits (h.extractLsb' 0 69), len := len, sym := sym,
               nAmb := h.extractLsb' 70 7 }, r.drop (len.slots / 4))

/-- The bits of a frame of the given length as bytes. -/
def putBits (len : FrameLen) (v : List Bool) : List Byte := leBytes (len.slots / 8) (bitsNat v)

/-- The bits of a frame of the given length from the front of the bytes. -/
def getBits (len : FrameLen) (bs : List Byte) : Except DecodeError (List Bool × List Byte) :=
  if bs.length < len.slots / 8 then .error .truncated
  else .ok (bitsOf len.slots (ofLE (bs.take (len.slots / 8))), bs.drop (len.slots / 8))

/-! ## Register writes as operations -/

/-- `MemWrite(off, 4, v)` as an operation (20_memory R53): at the offset of `CMD` the command of `v[1:0]` (30_encoding
R84), elsewhere a register write. -/
def Instr.ofBusWrite (off v : Word) : Instr :=
  if off = 0x08 then
    if v.extractLsb' 0 2 = 0 then .nop (v.extractLsb' 2 30)
    else if v.extractLsb' 0 2 = 1 then .start (v.extractLsb' 2 30)
    else if v.extractLsb' 0 2 = 2 then .stop (v.extractLsb' 2 30)
    else .clear (v.extractLsb' 2 30)
  else .wrcfg off v

/-! ## The decoder -/

/-- An operation whose operand is one record of `w` bits. -/
def decodeOne (w : Nat) (f : BitVec w → Instr) (bs : List Byte) :
    Except DecodeError (Instr × List Byte) :=
  match getRec w bs with
  | .error e => .error e
  | .ok (x, r) => .ok (f x, r)

/-- CRC: a Frame Candidate. -/
def decodeCrc (bs : List Byte) : Except DecodeError (Instr × List Byte) :=
  match getCand bs with
  | .error e => .error e
  | .ok (c, r) => .ok (.crc c, r)

/-- FIX: a Frame Candidate, its bits, the syndrome. -/
def decodeFix (bs : List Byte) : Except DecodeError (Instr × List Byte) :=
  match getCand bs with
  | .error e => .error e
  | .ok (c, r) =>
    match getBits c.len r with
    | .error e => .error e
    | .ok (v, r) => decodeOne 24 (.fix c v) r

/-- EMIT: `dist` 73:72, `status` 71:70, length 69, anchor 68:0, then the bits of the frame. -/
def decodeEmit (bs : List Byte) : Except DecodeError (Instr × List Byte) :=
  match getRec 74 bs with
  | .error e => .error e
  | .ok (h, r) =>
    match ParityStatus.ofBits (h.extractLsb' 70 2) with
    | none => .error .reservedCode
    | some st =>
      match getBits (FrameLen.ofBit (h.getLsbD 69)) r with
      | .error e => .error e
      | .ok (w, r) =>
        .ok (.emit (Anchor.ofBits (h.extractLsb' 0 69)) (FrameLen.ofBit (h.getLsbD 69)) w st
          (h.extractLsb' 72 2), r)

/-- The operands that follow an op id or a format-field tag (30_encoding R90; tags 0x20 to 0x3F are `0b001` and the
five bits of the format field, R86). -/
def decodeOperands (tag : Byte) (bs : List Byte) : Except DecodeError (Instr × List Byte) :=
  match tag.toNat with
  | 0x01 => decodeOne 33 (fun b => .mag (Sample.ofBits b)) bs
  | 0x02 => decodeOne 17 (fun b => .edge (EnvSample.ofBits b)) bs
  | 0x03 => decodeOne 164 (fun b => .sync (Pulse.ofBits b)) bs
  | 0x04 => decodeOne 69 (fun b => .frameOpen (Anchor.ofBits b)) bs
  | 0x05 => decodeOne 17 (fun b => .frameAcc (EnvSample.ofBits b)) bs
  | 0x06 => .ok (.frameLen, bs)
  | 0x07 => decodeOne 45 (fun b => .ppm (SlotObs.ofBits b)) bs
  | 0x08 => decodeCrc bs
  | 0x09 => decodeFix bs
  | 0x0A => decodeEmit bs
  | 0x10 => .ok (.reset, bs)
  | 0x11 => decodeOne 64 (fun b => Instr.ofBusWrite (b.extractLsb' 0 32) (b.extractLsb' 32 32)) bs
  | 0x12 => decodeOne 32 .rdreg bs
  | 0x13 => decodeOne 30 .start bs
  | 0x14 => decodeOne 30 .stop bs
  | 0x15 => decodeOne 30 .clear bs
  | 0x16 => decodeOne 30 .nop bs
  | 0x17 => decodeOne 33 (fun b => .push (Sample.ofBits b)) bs
  | 0x18 => .ok (.pop, bs)
  | n =>
    if n / 16 = 2 then .ok (.fmtShort (BitVec.ofNat 4 n), bs)
    else if n / 16 = 3 then .ok (.fmtLong (BitVec.ofNat 4 n), bs)
    else .error (.unassigned tag)

/-- Only well-formed operands make an operation. -/
def checkFormed (x : Instr × List Byte) : Except DecodeError (Instr × List Byte) :=
  match x.1.illFormed with
  | none => .ok x
  | some e => .error (.illFormed e)

/-- The first operation of the bytes and the bytes after it, or the reason why there is none. -/
def decode : List Byte → Except DecodeError (Instr × List Byte)
  | [] => .error .noBytes
  | tag :: bs =>
    match decodeOperands tag bs with
    | .error e => .error e
    | .ok x => checkFormed x

/-! ## The encoder -/

/-- The bytes of an operation: its op id (30_encoding R90), then its operand records. -/
def encode : Instr → List Byte
  | .mag smp => 0x01 :: putRec smp.toBits
  | .edge e => 0x02 :: putRec e.toBits
  | .sync p => 0x03 :: putRec p.toBits
  | .frameOpen a => 0x04 :: putRec a.toBits
  | .frameAcc e => 0x05 :: putRec e.toBits
  | .frameLen => [0x06]
  | .ppm o => 0x07 :: putRec o.toBits
  | .crc c => 0x08 :: putCand c
  | .fix c v syn => 0x09 :: (putCand c ++ (putBits c.len v ++ putRec syn))
  | .emit a len w st dist =>
    0x0A :: (putRec (dist ++ st.toBits ++ BitVec.ofBool len.toBit ++ a.toBits) ++ putBits len w)
  | .reset => [0x10]
  | .wrcfg off v => 0x11 :: putRec (v ++ off)
  | .rdreg off => 0x12 :: putRec off
  | .start u => 0x13 :: putRec u
  | .stop u => 0x14 :: putRec u
  | .clear u => 0x15 :: putRec u
  | .nop u => 0x16 :: putRec u
  | .push smp => 0x17 :: putRec smp.toBits
  | .pop => [0x18]
  | .fmtShort low => [0x2#4 ++ low]
  | .fmtLong low => [0x3#4 ++ low]

/-! ## Words of the opcode table -/

/-- The bytes an opcode-table word stands for, with zeros up to the longest operation and beyond. The table's words are
of three kinds that share values: a word of one byte is an op id (R90), but for 0, which is no id and is read as the format
field of FMT.SHORT (R86); a longer word is the data of a write to `CMD` (R84). DESIGN CHOICE, notes/assumptions/3.md. -/
def layoutTableWord (nbits w : Nat) : List Byte :=
  if nbits ≤ 8 then
    (if w % 256 = 0 then (0x20 : Byte) else BitVec.ofNat 8 w) :: List.replicate 63 0
  else
    0x11 :: (leBytes 4 0x08 ++ leBytes 4 w ++ List.replicate 55 0)

/-- The operation the decoder reads from an opcode-table word. -/
def decodeTableWord (nbits w : Nat) : Option Instr :=
  match decode (layoutTableWord nbits w) with
  | .ok (i, _) => some i
  | .error _ => none

end Sys2Proof
end

