-- ==== Sys2Proof/Machine/State.lean ====
section
/-! DEFINITION. The state of one core (spec/10_state.md R20 to R33), the events of the error taxonomy
(spec/60_exceptions.md R240), the reasons a step stops, and the state after hard reset (R36, R270). -/

namespace Sys2Proof.Machine

/-- `run` (10_state R21); value 3 is never produced. -/
inductive RunState where
  | idle
  | running
  | fault
  deriving DecidableEq, Repr

/-- `STATUS.err` (10_state R26, 60_exceptions R242); values 3 to 15 are never produced. -/
inductive ErrCode where
  | none
  | rateBelowFloor
  | rateUnsupported
  deriving DecidableEq, Repr

/-- `CTRL` (10_state R23, 30_encoding R82): the stored fields; the reserved bits have no storage. -/
structure Ctrl where
  rateSel : Rate
  resamp : Bool
  passAll : Bool
  threshSel : BitVec 4
  deriving DecidableEq, Repr

/-- `cfg`, the latched configuration (10_state R27). -/
structure Cfg where
  rateSel : Rate
  passAll : Bool
  threshSel : BitVec 4
  deriving DecidableEq, Repr

/-- `pd.mode` (10_state R28, 41_pulse_detector R110). -/
inductive PdMode where
  | low
  | rconf
  | high
  | fconf
  deriving DecidableEq, Repr

/-- PulseDetector state `pd` (10_state R28); `hist[k]` here is the spec's `pd.hist[k + 1]`. -/
structure PdState where
  hist : Vector EnvSample 2
  mode : PdMode
  rPos : Pos
  rRef : Amp
  rCnt : BitVec 2
  rAmp : Amp
  start : Pos
  amp : Amp
  fPos : Pos
  fRef : Amp
  fCnt : BitVec 2
  deriving DecidableEq, Repr

/-- PreambleSync state `ps` (10_state R29): `k = 0` is SEARCHING, `k = 1, 2, 3` is PARTIAL(k). -/
structure PsState where
  k : BitVec 2
  p0 : Pos
  conf : BitVec 4
  deriving DecidableEq, Repr

/-- `fr.mode` (10_state R30). -/
inductive FrMode where
  | idle
  | active
  deriving DecidableEq, Repr

/-- Framer state `fr` (10_state R30). `rate` stands for the pair `fr.spu`, `fr.half`, whose legal values are (8, 4) and
(10, 5); `n` is 56 or 112 (notes/assumptions/12.md). `e0`, `e1`, `b0`, `b1` are `fr.E[0..1]`, `fr.B[0..1]`. -/
structure FrState where
  mode : FrMode
  anchor : Anchor
  dStart : Pos
  rate : Rate
  j : BitVec 7
  n : FrameLen
  e0 : Energy
  e1 : Energy
  b0 : Bool
  b1 : Bool
  deriving DecidableEq, Repr

/-- Frame Candidate store `cand` (10_state R31). -/
structure CandStore where
  sym : Vector Sym 112
  nAmb : BitVec 7
  deriving DecidableEq, Repr

/-- The internal streams, oldest record first (10_state R33). -/
structure Streams where
  envelope : List EnvSample
  pulse : List Pulse
  anchor : List Anchor
  slot : List SlotObs
  candidate : List Candidate
  deriving DecidableEq, Repr

/-- What an `EdgeAmbiguity` is about (60_exceptions R246). -/
inductive Ambiguity where
  /-- A rising candidate at a sample position. -/
  | rising (position : Pos)
  /-- A falling candidate at a sample position. -/
  | falling (position : Pos)
  /-- The bit of a slot. -/
  | bit (j : BitVec 7)
  deriving DecidableEq, Repr

/-- Why a pulse is not emitted (60_exceptions R247). -/
inductive Rejection where
  | overlong
  | glitch
  deriving DecidableEq, Repr

/-- The exceptions and internal events of the core (60_exceptions R240), with the information each carries. -/
inductive Event where
  /-- Code 1, fatal: START refused the configuration (R242). -/
  | configurationError (sub : ErrCode)
  /-- Code 2: the stream ended with a window open (R243). -/
  | streamTruncation (position : Pos)
  /-- Code 3: a candidate's syndrome is not 0 (R244). -/
  | parityMismatch (position : Pos) (syn : Syndrome)
  /-- Code 4: no flip-set was accepted, or the ambiguity gate refused the candidate (R245). -/
  | uncorrectableFrame (position : Pos)
  /-- Code 5: an edge candidate or a bit was not clear (R246). -/
  | edgeAmbiguity (about : Ambiguity)
  /-- Code 6: a pulse of no valid width (R247). -/
  | pulseRejected (why : Rejection) (start : Pos)
  /-- Code 7: a pulse did not continue a partial preamble match (R247). -/
  | syncFail (k : BitVec 2) (p0 : Pos)
  /-- Code 8: an Anchor found a window open (R247). -/
  | anchorDropped (position : Pos)
  deriving DecidableEq, Repr

/-- What stands outside the core and is the model's own: no rule of the spec reads it, no reset of the core changes it
(DESIGN CHOICE, notes/assumptions/1.md, 4.md, 6.md, 7.md). -/
structure HostSide where
  /-- The bytes of the operations the environment has yet to perform, the next one first. -/
  ops : List Byte
  /-- The bytes of one operation that whoever examines the model has it perform alone, a stage operation among them; empty at
  reset and after every step, and no operation writes it (notes/assumptions/4.md). -/
  bench : List Byte
  /-- The word that the latest RDREG returned (47_host_commands R222). -/
  rdData : Word
  /-- The records that POP returned, oldest first (47_host_commands R228). -/
  taken : List DecodedFrame
  /-- The ghost log of raised events, oldest first (60_exceptions R241, R256). -/
  log : List Event
  deriving DecidableEq, Repr

/-- The complete state of one core instance (10_state R20), the parameters it was built with, and the host's side. -/
structure State where
  run : RunState
  pos : Pos
  ctrl : Ctrl
  srcRate : Word
  err : ErrCode
  cfg : Cfg
  pd : PdState
  ps : PsState
  fr : FrState
  cand : CandStore
  streams : Streams
  outq : List DecodedFrame
  params : Params
  host : HostSide
  deriving DecidableEq, Repr

/-- Why the machine stops with a fault: never. The core has no access fault and no trap (60_exceptions R240), its one fatal
exception is taken as a next state (R242), and where the spec has a model stop it says refuse. -/
inductive Fault where
  deriving DecidableEq, Repr

/-- Why an operation has no meaning where it stands. -/
inductive Refusal where
  /-- Raised by an arm of `exec` whose instruction has no meaning yet; no arm is such. Safe. -/
  | notModelled (mnemonic : String)
  /-- Raised by `step` when the waiting bytes are no operation (the model's queue; no byte of the hardware). Safe. -/
  | undecodable (why : DecodeError)
  /-- Raised by `step` when the next waiting operation is not one of the nine that the environment can perform
  (47_host_commands R220, R230). Safe. -/
  | notExternal
  /-- Raised by `step` on a machine whose parameters 93_implementation_defined section 2 refuses at construction. Safe. -/
  | illegalParameters
  /-- Raised by PUSH when `run` is not RUNNING: the handshake cannot complete (47_host_commands R224;
  93_implementation_defined section 2, "refuse as a step"). Safe. -/
  | sampleNotReady
  /-- Raised by POP when `outq` is empty: the handshake cannot complete (47_host_commands R228;
  93_implementation_defined section 2, "refuse as a step"). Safe. -/
  | frameNotValid
  /-- Raised by WRCFG and RDREG at an offset outside 0x00 to 0x0F, which 20_memory R55 says is not part of the core and
  a model should refuse. Safe: nothing is claimed of the access. -/
  | outsideWindow (off : Word)
  /-- Raised by WRCFG and RDREG at an offset in the window that is no multiple of 4, an access the interface cannot express
  (20_memory R54). Safe. -/
  | unaligned (off : Word)
  deriving DecidableEq, Repr

/-- The `START` and reset values of `pd` (10_state R28): every history entry stands for "no sample yet". -/
def PdState.initial : PdState where
  hist := #v[{ amp := 0, bad := true }, { amp := 0, bad := true }]
  mode := .low
  rPos := 0
  rRef := 0
  rCnt := 0
  rAmp := 0
  start := 0
  amp := 0
  fPos := 0
  fRef := 0
  fCnt := 0

/-- The `START` and reset values of `ps` (10_state R29). -/
def PsState.initial : PsState where
  k := 0
  p0 := 0
  conf := 0

/-- The `START` and reset values of `fr` (10_state R30, 70_reset_and_hazards R270). -/
def FrState.initial : FrState where
  mode := .idle
  anchor := { position := 0, chanRate := .msps8, confidence := 0 }
  dStart := 0
  rate := .msps8
  j := 0
  n := .short
  e0 := 0
  e1 := 0
  b0 := false
  b1 := false

/-- The `START` and reset values of `cand` (10_state R31). -/
def CandStore.initial : CandStore where
  sym := Vector.replicate 112 .zero
  nAmb := 0

/-- Every internal stream empty (10_state R33, R36). -/
def Streams.empty : Streams where
  envelope := []
  pulse := []
  anchor := []
  slot := []
  candidate := []

/-- `CTRL = 0x00000060` (10_state R23, R36). -/
def Ctrl.initial : Ctrl where
  rateSel := .msps8
  resamp := false
  passAll := false
  threshSel := 6

/-- `cfg` after hard reset (10_state R27, R36). -/
def Cfg.initial : Cfg where
  rateSel := .msps8
  passAll := false
  threshSel := 6

/-- The machine right after hard reset (10_state R36, 70_reset_and_hazards R270), built with the default parameters
(00_scope R6) and with no operation waiting. -/
def State.reset : State where
  run := .idle
  pos := 0
  ctrl := Ctrl.initial
  srcRate := 8000000
  err := .none
  cfg := Cfg.initial
  pd := PdState.initial
  ps := PsState.initial
  fr := FrState.initial
  cand := CandStore.initial
  streams := Streams.empty
  outq := []
  params := Params.default
  host := { ops := [], bench := [], rdData := 0, taken := [], log := [] }

end Sys2Proof.Machine
end

