-- ==== Sys2Proof/Machine/Operands.lean ====
section
/-! DEFINITION. What the operations compute with: the constants of spec/00_scope.md R6, the threshold comparison (R12),
the integer square root (R8), position arithmetic (spec/10_state.md R22), bits of symbols (spec/44_ppm_decoder.md R183)
and of frames (spec/30_encoding.md R79, R80), and the check of the build-time parameters. -/

namespace Sys2Proof.Machine

/-! ## Constants of the operating rate (00_scope R6) -/

/-- `RATE_FLOOR`. -/
def rateFloor : Nat := 8000000

/-- `RATE(rate_sel)`. -/
def rateOf : Rate → Nat
  | .msps8 => 8000000
  | .msps10 => 10000000

/-- `SPU`: samples per bit-slot. -/
def spu (r : Rate) : Nat := rateOf r / 1000000

/-- `HALF`: samples per half-slot. -/
def half (r : Rate) : Nat := spu r / 2

/-- `LAG`: comparison lag of the edge detector. -/
def lag (r : Rate) : Nat := spu r / 4

/-- `RUN`: run length confirming an edge, a table and no formula (decision D8). -/
def runLen : Rate → Nat
  | .msps8 => 2
  | .msps10 => 3

/-- `TOL`: position and width tolerance. -/
def tol (r : Rate) : Nat := spu r / 8

/-- `W_MIN`. -/
def wMin (r : Rate) : Nat := half r - tol r

/-- `W_MAX`. -/
def wMax (r : Rate) : Nat := 2 * half r + tol r

/-- `PRE_LEN`: preamble length in half-slots. -/
def preLen : Nat := 16

/-- `GN[T]`: `256 * 10^(T/20)` rounded. -/
def gain (t : BitVec 4) : Nat :=
  [256, 287, 322, 362, 406, 455, 511, 573, 643, 722, 810, 908, 1019, 1144, 1283, 1440].getD t.toNat 0

/-! ## Comparisons and arithmetic -/

/-- `exceeds(x, y)` at threshold `t`: `x` is above `y` by at least `t` dB (00_scope R12). -/
def exceeds (t : BitVec 4) (x y : Nat) : Bool := decide (y < x) && decide (y * gain t ≤ x * 256)

/-- One more binary digit of the root: bit `k` is kept if the square stays within `x`. -/
def isqrtFrom (x : Nat) : Nat → Nat → Nat
  | 0, r => r
  | k + 1, r => isqrtFrom x k (if (r + 2 ^ k) * (r + 2 ^ k) ≤ x then r + 2 ^ k else r)

/-- `isqrt(x)`: the largest `r` with `r * r <= x`, for `x` below `2^34` (00_scope R8). MAG needs it up to `2^31`. -/
def isqrt (x : Nat) : Nat := isqrtFrom x 17 0

/-- `I * I + Q * Q` with `I = sext_16(i)`, `Q = sext_16(q)` (40_magnitude R100). -/
def powerOf (smp : Sample) : Nat := (smp.i.toInt * smp.i.toInt + smp.q.toInt * smp.q.toInt).toNat

/-- `good(e)` (30_encoding R72). -/
def good (e : EnvSample) : Bool := !e.bad

/-- `abs` of the signed difference of two positions, taken modulo `2^64` (42_preamble_sync R141, 10_state R22). -/
def posDist (a b : Pos) : Nat := (a - b).toInt.natAbs

/-- `n >= d` for positions, on their signed difference modulo `2^64`. DEDUCED: the plain comparison and this one agree
while positions stay below `2^63` (70_reset_and_hazards R279; notes/assumptions/10.md). -/
def posReached (n d : Pos) : Bool := decide (0 ≤ (n - d).toInt)

/-- The distance of two small numbers. -/
def natDist (a b : Nat) : Nat := ((a : Int) - (b : Int)).natAbs

/-! ## Bits of symbols and frames -/

/-- The provisional bit of a symbol (44_ppm_decoder R183, 30_encoding R77). -/
def symBit : Sym → Bool
  | .one => true
  | .zero => false
  | .ambig => false

/-- The provisional bit vector of symbols (30_encoding R78). -/
def provisional (sym : List Sym) : List Bool := sym.map symBit

/-- Bits as a number, the earlier bit the more significant (00_scope R9 (b)). -/
def msbNat (v : List Bool) : Nat := v.foldl (fun a b => 2 * a + b.toNat) 0

/-- `df`: the number of the first five bits (30_encoding R80). -/
def formatOf (v : List Bool) : Nat := msbNat (v.take 5)

/-- `IS_LONG` of the first five bits (30_encoding R86). -/
def isLong (p : Params) (v : List Bool) : Bool := p.isLong.getLsbD (formatOf v)

/-- 112 if `IS_LONG`, else 56 (30_encoding R86). -/
def lengthOf (p : Params) (v : List Bool) : FrameLen := if isLong p v then .long else .short

/-- `f_bits`: `fb(i)` is bit `111 - i`, a short frame left-aligned with zeros below (30_encoding R79). -/
def frameBits (w : List Bool) : BitVec 112 := BitVec.ofNat 112 (msbNat w * 2 ^ (112 - w.length))

/-- The two PulseEdges of a Pulse (30_encoding R74). -/
def pulseEdges (p : Pulse) : PulseEdge × PulseEdge :=
  ({ position := p.start, kind := .rising, amplitude := p.amp },
   { position := p.stop, kind := .falling, amplitude := p.famp })

/-! ## Build-time parameters -/

/-- The parameters 93_implementation_defined section 2 lets a model be built with: `MAX_DIST` at most 3, `CRC_POLY` with a
non-zero constant term, `PRE_R`, `PRE_F` strictly increasing and interleaved with `PRE_F[3] <= PRE_LEN`. -/
def paramsLegal (p : Params) : Bool :=
  decide (p.maxDist ≤ 3) && p.crcPoly.getLsbD 0 &&
  decide (p.preR[0] < p.preF[0]) && decide (p.preF[0] < p.preR[1]) &&
  decide (p.preR[1] < p.preF[1]) && decide (p.preF[1] < p.preR[2]) &&
  decide (p.preR[2] < p.preF[2]) && decide (p.preF[2] < p.preR[3]) &&
  decide (p.preR[3] < p.preF[3]) && decide (p.preF[3] ≤ preLen)

end Sys2Proof.Machine
end

