-- ==== Sys2Proof/Machine/Flags.lean ====
section
/-! DEFINITION. The fields of the registers (spec/30_encoding.md R82 to R85), the views of state that STATUS and the two
ports show (spec/10_state.md R26, spec/20_memory.md R62, R63), and the codes of the events (spec/60_exceptions.md R240).
The core has no condition codes (spec/10_state.md R34). -/

namespace Sys2Proof.Machine

/-- `run` in STATUS bits 1:0 (30_encoding R85). -/
def runCode : RunState → BitVec 2
  | .idle => 0
  | .running => 1
  | .fault => 2

/-- `err` in STATUS bits 7:4 (30_encoding R85, 60_exceptions R242). -/
def errCode : ErrCode → BitVec 4
  | .none => 0
  | .rateBelowFloor => 1
  | .rateUnsupported => 2

/-- `CTRL` as read: `thresh_sel` 7:4, `pass_all` 2, `resamp` 1, `rate_sel` 0, every other bit 0 (30_encoding R82). -/
def ctrlWord (c : Ctrl) : Word :=
  0#24 ++ c.threshSel ++ 0#1 ++ BitVec.ofBool c.passAll ++ BitVec.ofBool c.resamp ++
    BitVec.ofBool c.rateSel.toBit

/-- `CTRL` as written: bits 3 and 31:8 are dropped (47_host_commands R221). -/
def ctrlOfWord (v : Word) : Ctrl where
  rateSel := Rate.ofBit (v.getLsbD 0)
  resamp := v.getLsbD 1
  passAll := v.getLsbD 2
  threshSel := v.extractLsb' 4 4

/-- `STATUS.busy`: a frame window is open (10_state R26). -/
def busy (s : State) : Bool := decide (s.fr.mode = .active)

/-- `STATUS.f_avail`: the frame port holds a record (10_state R26). -/
def fAvail (s : State) : Bool := !s.outq.isEmpty

/-- `STATUS` as read: `f_avail` 9, `busy` 8, `err` 7:4, `run` 1:0, every other bit 0 (30_encoding R85). -/
def statusWord (s : State) : Word :=
  0#22 ++ BitVec.ofBool (fAvail s) ++ BitVec.ofBool (busy s) ++ errCode s.err ++ 0#2 ++ runCode s.run

/-- `s_ready` of the sample port: the reference never stalls in RUNNING (20_memory R62; notes/assumptions/17.md). -/
def sReady (s : State) : Bool := decide (s.run = .running)

/-- `f_valid` of the frame port (20_memory R63). -/
def fValid (s : State) : Bool := fAvail s

/-- The record fields of the frame port: the head of `outq` while `f_valid = 1` (20_memory R63). -/
def fRecord (s : State) : Option DecodedFrame := s.outq.head?

/-- The code of an event (60_exceptions R240). -/
def eventCode : Event → Nat
  | .configurationError _ => 1
  | .streamTruncation _ => 2
  | .parityMismatch _ _ => 3
  | .uncorrectableFrame _ => 4
  | .edgeAmbiguity _ => 5
  | .pulseRejected _ _ => 6
  | .syncFail _ _ => 7
  | .anchorDropped _ => 8

end Sys2Proof.Machine
end

