-- ==== Sys2Proof/Machine/Ops.lean ====
section
/-! DEFINITION. The named operations that the meanings share: writing one component of the state, raising an event of the
taxonomy and leaving FAULT (spec/60_exceptions.md R240, R242), the internal streams (spec/00_scope.md R11, spec/20_memory.md
R57), the frame port queue, and the register window (spec/20_memory.md R52 to R55). -/

namespace Sys2Proof.Machine

/-! ## Writing one component -/

/-- `pd` becomes `x`. -/
def setPd (x : PdState) (s : State) : State := { s with pd := x }

/-- `ps` becomes `x`. -/
def setPs (x : PsState) (s : State) : State := { s with ps := x }

/-- `fr` becomes `x`. -/
def setFr (x : FrState) (s : State) : State := { s with fr := x }

/-- `cand` becomes `x`. -/
def setCand (x : CandStore) (s : State) : State := { s with cand := x }

/-- The internal streams become `x`. -/
def setStreams (x : Streams) (s : State) : State := { s with streams := x }

/-- The host's side becomes `x`. -/
def setHost (x : HostSide) (s : State) : State := { s with host := x }

/-- `fr.mode` becomes IDLE. -/
def closeWindow (s : State) : State := setFr { s.fr with mode := .idle } s

/-! ## Raising an event -/

/-- The ghost log grows by one event (60_exceptions R256; notes/assumptions/7.md). -/
def logEvent (e : Event) (s : State) : State := setHost { s.host with log := s.host.log ++ [e] } s

/-- `raise` (60_exceptions R240): exactly what the column *effect* says, and the event in the log. The only exception
that is not absorbed is `ConfigurationError`, which enters FAULT with its sub-code in `STATUS.err` (R242). The effect of
`StreamTruncation` is `fr.mode <- IDLE` (R243). The other six change nothing by themselves: what each discards is written
in the rule that raises it (R241). -/
def raise (e : Event) (s : State) : State :=
  match e with
  | .configurationError sub => logEvent e { s with run := .fault, err := sub }
  | .streamTruncation _ => logEvent e (closeWindow s)
  | .parityMismatch _ _ => logEvent e s
  | .uncorrectableFrame _ => logEvent e s
  | .edgeAmbiguity _ => logEvent e s
  | .pulseRejected _ _ => logEvent e s
  | .syncFail _ _ => logEvent e s
  | .anchorDropped _ => logEvent e s

/-- The return from FAULT: `run <- IDLE`, `STATUS.err <- 0`. The core has no return operation; CLEAR and RESET do this
(60_exceptions R242). -/
def leaveFault (s : State) : State := { s with run := .idle, err := .none }

/-- The event of a stream that ends with a window open while RUNNING (60_exceptions R243). -/
def truncateStream (s : State) : State :=
  if s.run = .running ∧ s.fr.mode = .active then raise (.streamTruncation s.fr.anchor.position) s
  else s

/-- `pos`, `pd`, `ps`, `fr`, `cand` at their initial values and the internal streams empty: what RESET, CLEAR and an
accepted START have in common (70_reset_and_hazards R271, 10_state R36). -/
def initPipeline (s : State) : State :=
  { s with pos := 0, pd := PdState.initial, ps := PsState.initial, fr := FrState.initial,
           cand := CandStore.initial, streams := Streams.empty }

/-! ## Internal streams: `emit` appends, a stage takes the oldest record -/

/-- `emit envelope(e)`. -/
def emitEnvelope (e : EnvSample) (s : State) : State :=
  setStreams { s.streams with envelope := s.streams.envelope ++ [e] } s

/-- `emit pulse(p)`. -/
def emitPulse (p : Pulse) (s : State) : State :=
  setStreams { s.streams with pulse := s.streams.pulse ++ [p] } s

/-- `emit anchor(a)`. -/
def emitAnchor (a : Anchor) (s : State) : State :=
  setStreams { s.streams with anchor := s.streams.anchor ++ [a] } s

/-- `emit slot(o)`. -/
def emitSlot (o : SlotObs) (s : State) : State :=
  setStreams { s.streams with slot := s.streams.slot ++ [o] } s

/-- `emit candidate(c)`. -/
def emitCandidate (c : Candidate) (s : State) : State :=
  setStreams { s.streams with candidate := s.streams.candidate ++ [c] } s

/-- The oldest envelope sample, consumed by `f`, which runs after it has left the stream. -/
def takeEnvelope (f : EnvSample → State → State) (s : State) : State :=
  match s.streams.envelope with
  | [] => s
  | e :: l => f e (setStreams { s.streams with envelope := l } s)

/-- The oldest pulse, if there is one, consumed by `f`. -/
def takePulse (f : Pulse → State → State) (s : State) : State :=
  match s.streams.pulse with
  | [] => s
  | p :: l => f p (setStreams { s.streams with pulse := l } s)

/-- The oldest anchor, if there is one, consumed by `f`. -/
def takeAnchor (f : Anchor → State → State) (s : State) : State :=
  match s.streams.anchor with
  | [] => s
  | a :: l => f a (setStreams { s.streams with anchor := l } s)

/-- The oldest slot observation, if there is one, consumed by `f`. -/
def takeSlot (f : SlotObs → State → State) (s : State) : State :=
  match s.streams.slot with
  | [] => s
  | o :: l => f o (setStreams { s.streams with slot := l } s)

/-- The oldest candidate, if there is one, consumed by `f`. -/
def takeCandidate (f : Candidate → State → State) (s : State) : State :=
  match s.streams.candidate with
  | [] => s
  | c :: l => f c (setStreams { s.streams with candidate := l } s)

/-- A record joins the frame port queue (46_error_corrector R207). -/
def appendOut (f : DecodedFrame) (s : State) : State := { s with outq := s.outq ++ [f] }

/-! ## The register window -/

/-- The word at an aligned offset of the window (20_memory R52, 47_host_commands R222); `none` where the window has no
word. -/
def readWord (off : Word) (s : State) : Option Word :=
  if off = 0x00 then some (ctrlWord s.ctrl)
  else if off = 0x04 then some s.srcRate
  else if off = 0x08 then some 0
  else if off = 0x0C then some (statusWord s)
  else none

/-- The refusal of an access the window does not have: outside it (20_memory R55), or misaligned in it (R54). -/
def badAccess (off : Word) : Host.Outcome State Fault Refusal :=
  .refused (if 0x10 ≤ off.toNat then .outsideWindow off else .unaligned off)

/-- `CTRL` and `SRC_RATE` take a word in IDLE only; elsewhere the write is ignored (47_host_commands R221). -/
def writeConfig (off v : Word) (s : State) : State :=
  if s.run = .idle then
    if off = 0x00 then { s with ctrl := ctrlOfWord v }
    else if off = 0x04 then { s with srcRate := v }
    else s
  else s

end Sys2Proof.Machine
end

