-- ==== Sys2Proof/Machine/PpmDecoder.lean ====
section
/-! DEFINITION. Stage 5, PPMBitDecoder: PPM (spec/44_ppm_decoder.md). -/

namespace Sys2Proof.Machine

/-- The symbol of a slot observation (R181, R182). -/
def symbolOf (t : BitVec 4) (o : SlotObs) : Sym :=
  if o.b1 || o.b2 then .ambig
  else if exceeds t o.e1.toNat o.e2.toNat then .one
  else if exceeds t o.e2.toNat o.e1.toNat then .zero
  else .ambig

/-- `cand.sym[j] <- x`, and `n_amb` counts an AMBIG (R181). -/
def storeSymbol (j : BitVec 7) (x : Sym) (s : State) : State :=
  setCand { sym := s.cand.sym.setIfInBounds j.toNat x,
            nAmb := if x = .ambig then s.cand.nAmb + 1 else s.cand.nAmb } s

/-- PPM: one slot observation becomes one symbol (R181). -/
def ppm (o : SlotObs) (s : State) : State :=
  let x := symbolOf s.cfg.threshSel o
  if x = .ambig then raise (.edgeAmbiguity (.bit o.j)) (storeSymbol o.j x s)
  else storeSymbol o.j x s

/-- PPM as an operation. -/
def execPpm (o : SlotObs) (s : State) : Host.Outcome State Fault Refusal := .next (ppm o s)

end Sys2Proof.Machine
end

