-- ==== Sys2Proof/Machine/Framer.lean ====
section
/-! DEFINITION. Stage 4, Framer: FRAME.OPEN, FRAME.ACC, FRAME.LEN (spec/43_framer.md), and the format-field decode
FMT.SHORT, FMT.LONG (spec/30_encoding.md R86). -/

namespace Sys2Proof.Machine

/-! ## FRAME.OPEN -/

/-- The window context of an accepted Anchor (R161, R163). -/
def openedWindow (a : Anchor) : FrState where
  mode := .active
  anchor := a
  dStart := a.position + BitVec.ofNat 64 (preLen * half a.chanRate)
  rate := a.chanRate
  j := 0
  n := .short
  e0 := 0
  e1 := 0
  b0 := false
  b1 := false

/-- FRAME.OPEN: an Anchor opens a window, or is dropped while one is open (R161, R162). -/
def frameOpen (a : Anchor) (s : State) : State :=
  match s.fr.mode with
  | .idle => setCand CandStore.initial (setFr (openedWindow a) s)
  | .active => raise (.anchorDropped a.position) s

/-- FRAME.OPEN as an operation. -/
def execFrameOpen (a : Anchor) (s : State) : Host.Outcome State Fault Refusal :=
  .next (frameOpen a s)

/-! ## FRAME.LEN and the format-field decode -/

/-- `fr.n <- 112 if IS_LONG(b) else 56` (R167, 30_encoding R86). -/
def selectLength (b : List Bool) (s : State) : State :=
  setFr { s.fr with n := lengthOf s.params b } s

/-- FRAME.LEN: the length from the first five provisional bits (R167). -/
def frameLen (s : State) : State := selectLength (provisional (s.cand.sym.toList.take 5)) s

/-- FRAME.LEN as an operation. -/
def execFrameLen (s : State) : Host.Outcome State Fault Refusal := .next (frameLen s)

/-- The five bits of a format field, `fb(0)` first, from its first bit and the other four (30_encoding R80). -/
def formatBits (b : Bool) (low : BitVec 4) : List Bool :=
  [b, low.getLsbD 3, low.getLsbD 2, low.getLsbD 1, low.getLsbD 0]

/-- FMT.SHORT: the format field `0xxxx` selects the window length (30_encoding R86; notes/assumptions/13.md). -/
def execFmtShort (low : BitVec 4) (s : State) : Host.Outcome State Fault Refusal :=
  .next (selectLength (formatBits false low) s)

/-- FMT.LONG: the format field `1xxxx` selects the window length (30_encoding R86; notes/assumptions/13.md). -/
def execFmtLong (low : BitVec 4) (s : State) : Host.Outcome State Fault Refusal :=
  .next (selectLength (formatBits true low) s)

/-! ## FRAME.ACC -/

/-- `idx`: the place of the current sample in the window (R164). -/
def windowIndex (s : State) : Nat := (s.pos - s.fr.dStart).toNat

/-- A sample joins the energy of its half-slot, or marks it bad (R164). -/
def addSample (e : EnvSample) (fr : FrState) (h : Nat) : FrState :=
  if h = 0 then
    if good e then { fr with e0 := fr.e0 + e.amp.setWidth 18 } else { fr with b0 := true }
  else
    if good e then { fr with e1 := fr.e1 + e.amp.setWidth 18 } else { fr with b1 := true }

/-- The observation of the slot that completes (R164, 30_encoding R76). -/
def slotObs (fr : FrState) : SlotObs where
  e1 := fr.e0
  e2 := fr.e1
  b1 := fr.b0
  b2 := fr.b1
  j := fr.j

/-- The next slot begins: energies and bad flags cleared, `fr.j` counts the completed one (R164). -/
def nextSlot (fr : FrState) : FrState :=
  { fr with e0 := 0, e1 := 0, b0 := false, b1 := false, j := fr.j + 1 }

/-- The candidate of a window that closes (R168). -/
def candidateOf (s : State) : Candidate where
  anchor := s.fr.anchor
  len := s.fr.n
  sym := s.cand.sym.toList.take s.fr.n.slots
  nAmb := s.cand.nAmb

/-- CLOSE: the window ends and its candidate goes on (R168). -/
def closeFrame (s : State) : State := emitCandidate (candidateOf s) (closeWindow s)

/-- The last sample of a slot: the observation goes to PPM, then FRAME.LEN after slot 4 and CLOSE after the last slot
(R164; 20_memory R58 step 6). -/
def completeSlot (s : State) : State :=
  let s1 := takeSlot ppm (emitSlot (slotObs s.fr) s)
  let s2 := setFr (nextSlot s1.fr) s1
  let s3 := if s2.fr.j.toNat = 5 then frameLen s2 else s2
  if s3.fr.j.toNat = s3.fr.n.slots then closeFrame s3 else s3

/-- FRAME.ACC: one envelope sample inside an open window (R164). -/
def frameAcc (e : EnvSample) (s : State) : State :=
  if s.fr.mode = .active ∧ posReached s.pos s.fr.dStart = true then
    let r := windowIndex s % spu s.fr.rate
    let s1 := setFr (addSample e s.fr (r / half s.fr.rate)) s
    if r + 1 = spu s.fr.rate then completeSlot s1 else s1
  else s

/-- FRAME.ACC as an operation. -/
def execFrameAcc (e : EnvSample) (s : State) : Host.Outcome State Fault Refusal :=
  .next (frameAcc e s)

end Sys2Proof.Machine
end

