-- ==== Sys2Proof/Machine/Magnitude.lean ====
section
/-! DEFINITION. Stage 1, MagnitudeDetector: MAG (spec/40_magnitude.md). -/

namespace Sys2Proof.Machine

/-- The envelope sample of a sample (40_magnitude R100, R102). -/
def magnitude (smp : Sample) : EnvSample :=
  if smp.bad then { amp := 0, bad := true }
  else { amp := BitVec.ofNat 16 (isqrt (powerOf smp)), bad := false }

/-- MAG: one envelope sample for each sample (40_magnitude R100, R101). -/
def mag (smp : Sample) (s : State) : State := emitEnvelope (magnitude smp) s

/-- MAG as an operation. -/
def execMag (smp : Sample) (s : State) : Host.Outcome State Fault Refusal := .next (mag smp s)

end Sys2Proof.Machine
end

