-- ==== Sys2Proof/Machine/ErrorCorrector.lean ====
section
/-! DEFINITION. The parity function and its linear pieces (spec/45_parity_checker.md R190, R195), and stage 7,
ErrorCorrector and output: FIX, EMIT (spec/46_error_corrector.md). -/

namespace Sys2Proof.Machine

/-! ## The parity function -/

/-- One bit enters the 24-bit register (45_parity_checker R190). -/
def crcStep (poly : Syndrome) (r : Syndrome) (b : Bool) : Syndrome :=
  let shifted := (r <<< 1) ||| (BitVec.ofBool b).setWidth 24
  if r.getLsbD 23 then shifted ^^^ poly else shifted

/-- `syndrome(v)`: the remainder of `v` by the generator (45_parity_checker R190). -/
def syndrome (poly : Syndrome) (v : List Bool) : Syndrome := v.foldl (crcStep poly) 0

/-- `parity(payload)`: the remainder of the payload with 24 zero bits after it (45_parity_checker R190). -/
def parity (poly : Syndrome) (payload : List Bool) : Syndrome :=
  syndrome poly (payload ++ List.replicate 24 false)

/-- `e(n, p)`: `n` bits with a single 1 at frame position `p` (45_parity_checker R195). -/
def unitBits (n p : Nat) : List Bool := (List.replicate n false).set p true

/-- `S(n, p)`: the syndrome of a single flip (45_parity_checker R195). -/
def flipSyndrome (poly : Syndrome) (n p : Nat) : Syndrome := syndrome poly (unitBits n p)

/-! ## EMIT -/

/-- The Decoded Frame of a classified frame (46_error_corrector R207, 30_encoding R79). -/
def frameOf (a : Anchor) (len : FrameLen) (w : List Bool) (st : ParityStatus) (dist : BitVec 2) :
    DecodedFrame where
  bits := frameBits w
  long := len
  status := st
  dist := dist
  position := a.position

/-- EMIT: an invalid frame is dropped unless `cfg.pass_all`; every other one joins `outq` (R207). -/
def emit (a : Anchor) (len : FrameLen) (w : List Bool) (st : ParityStatus) (dist : BitVec 2)
    (s : State) : State :=
  if st = .invalid ∧ s.cfg.passAll = false then s else appendOut (frameOf a len w st dist) s

/-- EMIT as an operation. -/
def execEmit (a : Anchor) (len : FrameLen) (w : List Bool) (st : ParityStatus) (dist : BitVec 2)
    (s : State) : Host.Outcome State Fault Refusal := .next (emit a len w st dist s)

/-! ## FIX -/

/-- The priority list `P`: the ambiguous positions ascending, then the clear ones ascending (R201). -/
def priorityList (sym : List Sym) : List Nat :=
  let ix := List.range sym.length
  ix.filter (fun i => sym[i]? = some .ambig) ++ ix.filter (fun i => sym[i]? ≠ some .ambig)

/-- All `d`-element subsets of a list, in lexicographic order of their ranks in it (R203). -/
def flipSets : Nat → List Nat → List (List Nat)
  | 0, _ => [[]]
  | _ + 1, [] => []
  | d + 1, p :: ps => (flipSets d ps).map (p :: ·) ++ flipSets (d + 1) ps

/-- The flip-sets of size 1 to `MAX_DIST`, in the order in which they are tried (R202, R203). -/
def searchOrder (maxDist : Nat) (ranks : List Nat) : List (List Nat) :=
  (List.range maxDist).flatMap (fun k => flipSets (k + 1) ranks)

/-- `v` with every position of `f` inverted (R202). -/
def flipBits (v : List Bool) (f : List Nat) : List Bool := f.foldl (fun w p => w.modify p not) v

/-- `s xor S(n, P[r_1]) xor ... xor S(n, P[r_d])` (R202). -/
def residue (poly : Syndrome) (n : Nat) (syn : Syndrome) (f : List Nat) : Syndrome :=
  f.foldl (fun x p => x ^^^ flipSyndrome poly n p) syn

/-- A flip-set is accepted: it makes the syndrome zero and keeps the length class (R202, R204). -/
def accepted (p : Params) (len : FrameLen) (v : List Bool) (syn : Syndrome) (f : List Nat) : Bool :=
  decide (residue p.crcPoly len.slots syn f = 0) && decide (lengthOf p (flipBits v f) = len)

/-- The first flip-set that is accepted (R202). -/
def findFlips (p : Params) (c : Candidate) (v : List Bool) (syn : Syndrome) : Option (List Nat) :=
  (searchOrder p.maxDist (priorityList c.sym)).find? (accepted p c.len v syn)

/-- FIX: the bounded search, then EMIT (R202). -/
def fix (c : Candidate) (v : List Bool) (syn : Syndrome) (s : State) : State :=
  match findFlips s.params c v syn with
  | some f => emit c.anchor c.len (flipBits v f) .corrected (BitVec.ofNat 2 f.length) s
  | none => emit c.anchor c.len v .invalid 0 (raise (.uncorrectableFrame c.anchor.position) s)

/-- FIX as an operation. -/
def execFix (c : Candidate) (v : List Bool) (syn : Syndrome) (s : State) :
    Host.Outcome State Fault Refusal := .next (fix c v syn s)

end Sys2Proof.Machine
end

