-- ==== Sys2Proof/Machine/ParityChecker.lean ====
section
/-! DEFINITION. Stage 6, ParityChecker: CRC (spec/45_parity_checker.md R192 to R197). It classifies and never changes a
bit; its three exits are the ambiguity gate, a match and a mismatch. -/

namespace Sys2Proof.Machine

/-- CRC: the ambiguity gate (R197), then match or mismatch of the provisional bits (R192, R193). -/
def crc (c : Candidate) (s : State) : State :=
  let v := provisional c.sym
  let syn := syndrome s.params.crcPoly v
  if s.params.maxDist < c.nAmb.toNat then
    emit c.anchor c.len v .invalid 0 (raise (.uncorrectableFrame c.anchor.position) s)
  else if syn = 0 then emit c.anchor c.len v .clean 0 s
  else fix c v syn (raise (.parityMismatch c.anchor.position syn) s)

/-- CRC as an operation. -/
def execCrc (c : Candidate) (s : State) : Host.Outcome State Fault Refusal := .next (crc c s)

end Sys2Proof.Machine
end

