-- ==== Sys2Proof/Machine/PreambleSync.lean ====
section
/-! DEFINITION. Stage 3, PreambleSync: SYNC (spec/42_preamble_sync.md). -/

namespace Sys2Proof.Machine

/-- `PRE_R[k]` (30_encoding R81). -/
def preRise (p : Params) (k : BitVec 2) : Nat := p.preR[k.toNat]'(k.isLt)

/-- `PRE_F[k]` (30_encoding R81). -/
def preFall (p : Params) (k : BitVec 2) : Nat := p.preF[k.toNat]'(k.isLt)

/-- The expected rising edge of template pulse `ps.k` (R141). -/
def expectedRise (s : State) : Pos :=
  s.ps.p0 + BitVec.ofNat 64 (preRise s.params s.ps.k * half s.cfg.rateSel)

/-- The expected falling edge of template pulse `ps.k` (R141). -/
def expectedFall (s : State) : Pos :=
  s.ps.p0 + BitVec.ofNat 64 (preFall s.params s.ps.k * half s.cfg.rateSel)

/-- FIRST: the test on a first pulse (R142). The width is compared with `HALF`, as the pseudocode has it
(notes/assumptions/19.md). -/
def first (p : Pulse) (s : State) : State :=
  if natDist p.width.toNat (half s.cfg.rateSel) ≤ tol s.cfg.rateSel then
    setPs { k := 1, p0 := p.start,
            conf := 1 + (if p.width.toNat = half s.cfg.rateSel then 1 else 0) } s
  else setPs { s.ps with k := 0 } s

/-- Both edges of a pulse are within `TOL` of template pulse `ps.k` (R140, R141). -/
def continues (p : Pulse) (s : State) : Bool :=
  decide (posDist p.start (expectedRise s) ≤ tol s.cfg.rateSel) &&
    decide (posDist p.stop (expectedFall s) ≤ tol s.cfg.rateSel)

/-- The edges matched with zero deviation so far, this pulse's included (R146). -/
def newConf (p : Pulse) (s : State) : BitVec 4 :=
  s.ps.conf + (if p.start = expectedRise s then 1 else 0) +
    (if p.stop = expectedFall s then 1 else 0)

/-- The Anchor of a full match (R141, R145, R146). -/
def anchorOf (p : Pulse) (s : State) : Anchor where
  position := s.ps.p0
  chanRate := s.cfg.rateSel
  confidence := newConf p s

/-- SYNC: one pulse against the template (R141, R143, R144). -/
def sync (p : Pulse) (s : State) : State :=
  if s.ps.k = 0 then first p s
  else if continues p s then
    if s.ps.k = 3 then
      emitAnchor (anchorOf p s) (setPs { s.ps with k := 0, conf := newConf p s } s)
    else setPs { s.ps with k := s.ps.k + 1, conf := newConf p s } s
  else first p (raise (.syncFail s.ps.k s.ps.p0) s)

/-- SYNC as an operation. -/
def execSync (p : Pulse) (s : State) : Host.Outcome State Fault Refusal := .next (sync p s)

end Sys2Proof.Machine
end

