-- ==== Sys2Proof/Machine/PulseDetector.lean ====
section
/-! DEFINITION. Stage 2, PulseDetector: EDGE (spec/41_pulse_detector.md). -/

namespace Sys2Proof.Machine

/-- The current sample stands `T` dB above an earlier level, and may be used. -/
def rises (t : BitVec 4) (e : EnvSample) (level : Amp) : Bool :=
  good e && exceeds t e.amp.toNat level.toNat

/-- The current sample stands `T` dB below an earlier level, and may be used. -/
def falls (t : BitVec 4) (e : EnvSample) (level : Amp) : Bool :=
  good e && exceeds t level.toNat e.amp.toNat

/-- EDGE in LOW: the rising-edge test (R112). -/
def edgeLow (e old : EnvSample) (s : State) : State :=
  if good old && rises s.cfg.threshSel e old.amp then
    setPd { s.pd with rPos := s.pos, rRef := old.amp, rCnt := 1, rAmp := e.amp, mode := .rconf } s
  else s

/-- EDGE in RCONF: confirming the rise (R113). -/
def edgeRconf (e : EnvSample) (s : State) : State :=
  if rises s.cfg.threshSel e s.pd.rRef then
    let cnt := s.pd.rCnt + 1
    let amp := if s.pd.rAmp.toNat < e.amp.toNat then e.amp else s.pd.rAmp
    if cnt.toNat = runLen s.cfg.rateSel then
      setPd { s.pd with rCnt := cnt, rAmp := amp, start := s.pd.rPos, amp := amp, mode := .high } s
    else setPd { s.pd with rCnt := cnt, rAmp := amp } s
  else
    setPd { s.pd with mode := .low } (raise (.edgeAmbiguity (.rising s.pd.rPos)) s)

/-- EDGE in HIGH: the overlong test, then the falling-edge test (R114). -/
def edgeHigh (e old : EnvSample) (s : State) : State :=
  if wMax s.cfg.rateSel < (s.pos - s.pd.start).toNat then
    setPd { s.pd with mode := .low } (raise (.pulseRejected .overlong s.pd.start) s)
  else if good old && falls s.cfg.threshSel e old.amp then
    setPd { s.pd with fPos := s.pos, fRef := old.amp, fCnt := 1, mode := .fconf } s
  else s

/-- The Pulse that a confirmed fall ends (R115). -/
def pulseOf (pd : PdState) : Pulse where
  start := pd.start
  stop := pd.fPos
  width := (pd.fPos - pd.start).setWidth 4
  amp := pd.amp
  famp := pd.fRef

/-- EDGE in FCONF: confirming the fall, validating the width, emitting the pulse (R115, R116). -/
def edgeFconf (e : EnvSample) (s : State) : State :=
  if falls s.cfg.threshSel e s.pd.fRef then
    let cnt := s.pd.fCnt + 1
    if cnt.toNat = runLen s.cfg.rateSel then
      let w := (s.pd.fPos - s.pd.start).toNat
      let s' := setPd { s.pd with fCnt := cnt, mode := .low } s
      if wMin s.cfg.rateSel ≤ w ∧ w ≤ wMax s.cfg.rateSel then emitPulse (pulseOf s.pd) s'
      else raise (.pulseRejected .glitch s.pd.start) s'
    else setPd { s.pd with fCnt := cnt } s
  else
    setPd { s.pd with mode := .high } (raise (.edgeAmbiguity (.falling s.pd.fPos)) s)

/-- The comparison sample `old = pd.hist[LAG]`; `LAG = 2` at both rates (R111). -/
def oldSample (s : State) : EnvSample := s.pd.hist[1]

/-- EDGE: dispatch on `pd.mode` (R111). The history shifts at the end of the tick, not here. -/
def edge (e : EnvSample) (s : State) : State :=
  match s.pd.mode with
  | .low => edgeLow e (oldSample s) s
  | .rconf => edgeRconf e s
  | .high => edgeHigh e (oldSample s) s
  | .fconf => edgeFconf e s

/-- The end of a tick: `pd.hist` shifts in the envelope sample, `pos` advances (R111; 20_memory R58 step 7; 10_state
R22). -/
def endTick (e : EnvSample) (s : State) : State :=
  { s with pd := { s.pd with hist := #v[e, s.pd.hist[0]] }, pos := s.pos + 1 }

/-- EDGE as an operation. -/
def execEdge (e : EnvSample) (s : State) : Host.Outcome State Fault Refusal := .next (edge e s)

end Sys2Proof.Machine
end

