-- ==== Sys2Proof/Machine/HostCommands.lean ====
section
/-! DEFINITION. The operations of the host, the sample source and the frame sink (spec/47_host_commands.md), hard reset
(spec/70_reset_and_hazards.md R270), and the tick (spec/20_memory.md R58). -/

namespace Sys2Proof.Machine

/-! ## RESET -/

/-- RESET: every field of the core at its reset value (R270); the parameters the core was built with and the host's side
are not the core's to reset (notes/assumptions/22.md). -/
def hardReset (s : State) : State :=
  { State.reset with params := s.params, host := (truncateStream s).host }

/-- RESET as an operation (R270). -/
def execReset (s : State) : Host.Outcome State Fault Refusal := .next (hardReset s)

/-! ## Register accesses -/

/-- WRCFG: `MemWrite(off, 4, v)` at `CTRL` or `SRC_RATE` (R221); a write to `STATUS` does nothing (20_memory R53); a write
to `CMD` is decoded as its command and is no WRCFG. -/
def execWrcfg (off v : Word) (s : State) : Host.Outcome State Fault Refusal :=
  if off = 0x00 ∨ off = 0x04 ∨ off = 0x08 ∨ off = 0x0C then .next (writeConfig off v s)
  else badAccess off

/-- RDREG: `MemRead(off, 4)` (R222); the word read goes to the host. -/
def execRdreg (off : Word) (s : State) : Host.Outcome State Fault Refusal :=
  match readWord off s with
  | some v => .next (setHost { s.host with rdData := v } s)
  | none => badAccess off

/-! ## Commands -/

/-- CHECK: the configuration check made by START (R226). -/
def check (s : State) : ErrCode :=
  if s.srcRate.toNat < rateFloor then .rateBelowFloor
  else if s.ctrl.resamp = false ∧ s.srcRate.toNat ≠ rateOf s.ctrl.rateSel then .rateUnsupported
  else .none

/-- The fields of `CTRL` that START latches into `cfg` (R223, 10_state R27). -/
def latched (c : Ctrl) : Cfg where
  rateSel := c.rateSel
  passAll := c.passAll
  threshSel := c.threshSel

/-- START (R223): accepted in IDLE if CHECK passes, else `ConfigurationError`; ignored outside IDLE. -/
def startStream (s : State) : State :=
  if s.run = .idle then
    if check s = .none then
      { initPipeline s with cfg := latched s.ctrl, err := .none, run := .running }
    else raise (.configurationError (check s)) s
  else s

/-- START as an operation. -/
def execStart (_ign : BitVec 30) (s : State) : Host.Outcome State Fault Refusal :=
  .next (startStream s)

/-- STOP (R225): ends the stream and discards an open window; ignored outside RUNNING. -/
def stopStream (s : State) : State :=
  if s.run = .running then { truncateStream s with run := .idle } else s

/-- STOP as an operation. -/
def execStop (_ign : BitVec 30) (s : State) : Host.Outcome State Fault Refusal :=
  .next (stopStream s)

/-- CLEAR (R227): the pipeline at its initial values, `outq` empty, out of FAULT; `CTRL`, `SRC_RATE`, `cfg` kept. -/
def clearCore (s : State) : State :=
  { initPipeline (leaveFault (truncateStream s)) with outq := [] }

/-- CLEAR as an operation. -/
def execClear (_ign : BitVec 30) (s : State) : Host.Outcome State Fault Refusal :=
  .next (clearCore s)

/-- NOP (R229). -/
def execNop (_ign : BitVec 30) (s : State) : Host.Outcome State Fault Refusal := .next s

/-! ## Ports -/

/-- Steps 2 to 7 of a tick, on the envelope sample that MAG emitted (20_memory R58). -/
def tickStages (e : EnvSample) (s : State) : State :=
  endTick e (takeCandidate crc (frameAcc e (takeAnchor frameOpen (takePulse sync (edge e s)))))

/-- One tick of the core (20_memory R58). -/
def tick (smp : Sample) (s : State) : State := takeEnvelope tickStages (mag smp s)

/-- PUSH (R224): a sample port transfer, possible only while `s_ready = 1`. -/
def execPush (smp : Sample) (s : State) : Host.Outcome State Fault Refusal :=
  if sReady s then .next (tick smp s) else .refused .sampleNotReady

/-- POP (R228): a frame port transfer, possible only while `f_valid = 1`; the record goes to the host. -/
def execPop (s : State) : Host.Outcome State Fault Refusal :=
  match s.outq with
  | [] => .refused .frameNotValid
  | f :: l => .next { s with outq := l, host := { s.host with taken := s.host.taken ++ [f] } }

end Sys2Proof.Machine
end

