-- ==== Sys2Proof/Machine/Dispatch.lean ====
section
/-! DEFINITION. One arm per operation of spec/opcode_table.json, each one direct call of its meaning. -/

namespace Sys2Proof.Machine

/-- What an operation does. -/
def exec (i : Instr) (s : State) : Host.Outcome State Fault Refusal :=
  match i with
  | .mag smp => Sys2Proof.Machine.execMag smp s
  | .edge e => Sys2Proof.Machine.execEdge e s
  | .sync p => Sys2Proof.Machine.execSync p s
  | .frameOpen a => Sys2Proof.Machine.execFrameOpen a s
  | .frameAcc e => Sys2Proof.Machine.execFrameAcc e s
  | .frameLen => Sys2Proof.Machine.execFrameLen s
  | .ppm obs => Sys2Proof.Machine.execPpm obs s
  | .crc c => Sys2Proof.Machine.execCrc c s
  | .fix c v syn => Sys2Proof.Machine.execFix c v syn s
  | .emit a len w st dist => Sys2Proof.Machine.execEmit a len w st dist s
  | .reset => Sys2Proof.Machine.execReset s
  | .wrcfg off v => Sys2Proof.Machine.execWrcfg off v s
  | .rdreg off => Sys2Proof.Machine.execRdreg off s
  | .start ign => Sys2Proof.Machine.execStart ign s
  | .stop ign => Sys2Proof.Machine.execStop ign s
  | .clear ign => Sys2Proof.Machine.execClear ign s
  | .nop ign => Sys2Proof.Machine.execNop ign s
  | .push smp => Sys2Proof.Machine.execPush smp s
  | .pop => Sys2Proof.Machine.execPop s
  | .fmtShort low => Sys2Proof.Machine.execFmtShort low s
  | .fmtLong low => Sys2Proof.Machine.execFmtLong low s

end Sys2Proof.Machine
end

