-- ==== Sys2Proof/Machine/Fetch.lean ====
section
/-! DEFINITION. Which operations the environment has, and how the next operation is taken from the model's queue
(notes/assumptions/1.md, 3.md, 4.md); Step.lean only calls it. -/

namespace Sys2Proof.Machine

/-- The nine operations the environment can perform (47_host_commands R220); the others happen only inside them (R230). -/
def external : Instr → Bool
  | .reset => true
  | .wrcfg _ _ => true
  | .rdreg _ => true
  | .start _ => true
  | .stop _ => true
  | .clear _ => true
  | .nop _ => true
  | .push _ => true
  | .pop => true
  | .mag _ => false
  | .edge _ => false
  | .sync _ => false
  | .frameOpen _ => false
  | .frameAcc _ => false
  | .frameLen => false
  | .ppm _ => false
  | .crc _ => false
  | .fix _ _ _ => false
  | .emit _ _ _ _ _ => false
  | .fmtShort _ => false
  | .fmtLong _ => false

/-- The queue holds `ops`. -/
def setOps (ops : List Byte) (s : State) : State := setHost { s.host with ops := ops } s

/-- The bench holds `bytes`. -/
def setBench (bytes : List Byte) (s : State) : State := setHost { s.host with bench := bytes } s

/-- The next operation of the environment, taken off the queue, is performed; one that the environment does not have is
refused (47_host_commands R220, R230). With none waiting the core does nothing (60_exceptions R257). -/
def performWaiting (s : State) : Host.Outcome State Fault Refusal :=
  match s.host.ops with
  | [] => .next s
  | b :: l =>
    match decode (b :: l) with
    | .ok (i, rest) => if external i then exec i (setOps rest s) else .refused .notExternal
    | .error why => .refused (.undecodable why)

/-- The first operation of the bench is performed and the bench emptied (notes/assumptions/4.md). -/
def performBench (bytes : List Byte) (s : State) : Host.Outcome State Fault Refusal :=
  match decode bytes with
  | .ok (i, _) => exec i (setBench [] s)
  | .error why => .refused (.undecodable why)

/-- One step of the machine: with nothing on the bench, the next operation of the environment. A machine with parameters
that no core is built with does not run (93_implementation_defined section 2). -/
def stepQueue (s : State) : Host.Outcome State Fault Refusal :=
  if paramsLegal s.params then
    match s.host.bench with
    | [] => performWaiting s
    | b :: l => performBench (b :: l) s
  else .refused .illegalParameters

/-- An opcode-table word where the next step finds it: an operation of the environment in the queue, any other on the bench
(notes/assumptions/3.md, 4.md). -/
def placeTableWord (nbits w : Nat) (s : State) : State :=
  match decodeTableWord nbits w with
  | none => setOps (layoutTableWord nbits w) (setBench [] s)
  | some i =>
    if external i then setOps (layoutTableWord nbits w) (setBench [] s)
    else setBench (layoutTableWord nbits w) s

end Sys2Proof.Machine
end

