-- ==== Sys2Proof/Machine/Step.lean ====
section
/-! DEFINITION. One step of the machine, and the placing of an opcode-table word where the next step finds it. -/

namespace Sys2Proof.Machine

/-- One step: one operation of the environment, the next that waits in `host.ops` (47_host_commands R220;
notes/assumptions/1.md), unless the bench holds one to perform alone (notes/assumptions/4.md). -/
def step (s : State) : Host.Outcome State Fault Refusal := stepQueue s

/-- `s` with an opcode-table word placed where the next step finds it (notes/assumptions/3.md, 4.md). -/
def State.withFetchWord (s : State) (nbits w : Nat) : State := placeTableWord nbits w s

end Sys2Proof.Machine
end

