-- ==== Sys2Proof/Safety.lean ====
section
/-! DEFINITION. The terms in which claims speak of runs: the operations of the outside world, sequences of operations, what
a legal frame is, and the two invariants of the machine. -/

namespace Sys2Proof.Machine

/-! ## Runs -/

/-- Operations one after another, up to the first that stops. -/
def execAll : List Instr → State → Host.Outcome State Fault Refusal
  | [], s => .next s
  | i :: l, s =>
    match exec i s with
    | .next s' => execAll l s'
    | .fault r => .fault r
    | .refused r => .refused r

/-- `START; PUSH S; STOP` (70_reset_and_hazards R273). -/
def session (smps : List Sample) : List Instr :=
  .start 0 :: (smps.map Instr.push ++ [.stop 0])

/-- The PulseDetector alone on envelope samples, one tick each (41_pulse_detector R111). -/
def detect (es : List EnvSample) (s : State) : State :=
  es.foldl (fun s e => endTick e (edge e s)) s

/-- The Framer and the PPMBitDecoder alone on envelope samples, one tick each (43_framer R164). -/
def accumulate (es : List EnvSample) (s : State) : State :=
  es.foldl (fun s e => endTick e (frameAcc e s)) s

/-- The PreambleSync alone on pulses (42_preamble_sync R141). -/
def matchPulses (ps : List Pulse) (s : State) : State := ps.foldl (fun s p => sync p s) s

/-- The sum of the amplitudes of envelope samples (43_framer R164). -/
def ampSum (es : List EnvSample) : Nat := (es.map (fun e => e.amp.toNat)).sum

/-- The observation of a slot whose last sample is `e`: that sample belongs to the second half (43_framer R163, R164). -/
def endedSlot (e : EnvSample) (s : State) : SlotObs where
  e1 := s.fr.e0
  e2 := if e.bad = true then s.fr.e1 else BitVec.ofNat 18 (s.fr.e1.toNat + e.amp.toNat)
  b1 := s.fr.b0
  b2 := s.fr.b1 || e.bad
  j := s.fr.j

/-- The symbol store after slot `j` became `x` (44_ppm_decoder R181). -/
def storeAfter (j : BitVec 7) (x : Sym) (c : CandStore) : CandStore where
  sym := c.sym.setIfInBounds j.toNat x
  nAmb := if x = .ambig then c.nAmb + 1 else c.nAmb

/-- The host's side after slot `j` became `x`: an AMBIG is logged (60_exceptions R246). -/
def hostAfter (j : BitVec 7) (x : Sym) (h : HostSide) : HostSide :=
  if x = .ambig then { h with log := h.log ++ [.edgeAmbiguity (.bit j)] } else h

/-! ## Frames -/

/-- The bits of a Decoded Frame in frame order: `fb(i)` is `f_bits[111 - i]` (30_encoding R79). -/
def frameBitList (f : DecodedFrame) : List Bool :=
  (List.range f.long.slots).map (fun i => f.bits.getLsbD (111 - i))

/-- A record the frame port may show: a short frame has zeros below bit 56, and the distance is not 0 exactly for a
corrected frame (30_encoding R79). -/
def FrameLegal (f : DecodedFrame) : Prop :=
  (f.long = .short → ∀ k < 56, f.bits.getLsbD k = false) ∧ (f.status = .corrected ↔ f.dist ≠ 0)

/-- A flip-set the corrector may apply to a bit vector of the given length class: 1 to `MAX_DIST` different positions of the
frame whose single-flip syndromes cancel the syndrome, and whose inversion keeps the length class (46_error_corrector R202,
R204). For the syndrome of the vector itself the first says that the syndrome after the inversion is zero (45_parity_checker
R195). -/
def Reconciles (p : Params) (len : FrameLen) (v : List Bool) (syn : Syndrome) (f : List Nat) : Prop :=
  f.Nodup ∧ (∀ x ∈ f, x < len.slots) ∧ 1 ≤ f.length ∧ f.length ≤ p.maxDist ∧
    f.foldl (fun x q => x ^^^ flipSyndrome p.crcPoly len.slots q) syn = 0 ∧
    lengthOf p (flipBits v f) = len

/-- In how many positions two bit vectors of one length differ. -/
def diffCount (v w : List Bool) : Nat := (List.zipWith xor v w).count true

/-- What the class of an emitted frame guarantees (46_error_corrector R208), given the symbols its window left in the
candidate store: `v` are the provisional bits. -/
def ClassGuarantee (p : Params) (cfg : Cfg) (store : CandStore) (f : DecodedFrame) : Prop :=
  let sym := store.sym.toList.take f.long.slots
  let v := provisional sym
  lengthOf p (frameBitList f) = f.long ∧
  match f.status with
  | .clean => frameBitList f = v ∧ syndrome p.crcPoly (frameBitList f) = 0 ∧ f.dist = 0
  | .corrected =>
    syndrome p.crcPoly (frameBitList f) = 0 ∧ 1 ≤ f.dist.toNat ∧ f.dist.toNat ≤ p.maxDist ∧
      diffCount (frameBitList f) v = f.dist.toNat
  | .invalid =>
    frameBitList f = v ∧ f.dist = 0 ∧ cfg.passAll = true ∧
      (p.maxDist < sym.count .ambig ∨
        (syndrome p.crcPoly v ≠ 0 ∧ ∀ g, ¬Reconciles p f.long v (syndrome p.crcPoly v) g))

/-! ## Invariants -/

/-- What every step keeps, stage operations included: the parameters are those a core can be built with, STATUS shows an
error code exactly in FAULT (60_exceptions R242), every candidate on its way holds one symbol per slot (30_encoding R78), and
every record at the frame port or beyond it is legal (R79). -/
def CoreInv (s : State) : Prop :=
  paramsLegal s.params = true ∧ (s.run = .fault ↔ s.err ≠ .none) ∧
  (∀ c ∈ s.streams.candidate, c.sym.length = c.len.slots) ∧
  (∀ f ∈ s.outq, FrameLegal f) ∧ (∀ f ∈ s.host.taken, FrameLegal f)

/-- The detector's confirming runs stay below `RUN` and end with the latest sample (10_state R28, 41_pulse_detector R112 to
R115, R120). -/
def DetectorInv (s : State) : Prop :=
  (s.pd.mode = .rconf → 1 ≤ s.pd.rCnt.toNat ∧ s.pd.rCnt.toNat < runLen s.cfg.rateSel ∧
    s.pos = s.pd.rPos + s.pd.rCnt.setWidth 64) ∧
  (s.pd.mode = .fconf → 1 ≤ s.pd.fCnt.toNat ∧ s.pd.fCnt.toNat < runLen s.cfg.rateSel ∧
    s.pos = s.pd.fPos + s.pd.fCnt.setWidth 64)

/-- Two edges a matched pulse, at most, sat exactly on the template, the first rising edge always (10_state R29,
42_preamble_sync R146). -/
def MatcherInv (s : State) : Prop :=
  s.ps.k ≠ 0 → 1 ≤ s.ps.conf.toNat ∧ s.ps.conf.toNat ≤ 2 * s.ps.k.toNat

/-- An open window belongs to a running core and to its rate, counts its slots and its ambiguous symbols, and has the
length that the first five provisional bits select (43_framer R161 to R167, 10_state R30, R31). -/
def WindowInv (s : State) : Prop :=
  s.fr.mode = .active →
    s.run = .running ∧ s.fr.rate = s.cfg.rateSel ∧ s.fr.anchor.chanRate = s.cfg.rateSel ∧
    (1 ≤ s.fr.anchor.confidence.toNat ∧ s.fr.anchor.confidence.toNat ≤ 8) ∧
    s.fr.j.toNat < s.fr.n.slots ∧
    (s.fr.j.toNat < 5 → s.fr.n = .short) ∧
    (5 ≤ s.fr.j.toNat → s.fr.n = lengthOf s.params (provisional (s.cand.sym.toList.take 5))) ∧
    (∀ k (h : k < 112), s.fr.j.toNat ≤ k → s.cand.sym[k] = .zero) ∧
    s.cand.nAmb.toNat = s.cand.sym.toList.count .ambig

/-- Where an open window stands, `s.pos` being the next position to be consumed: it begins `16 * HALF` samples after its
Anchor (43_framer R161); before it begins nothing is counted; once it has begun, `fr.j` is the slot of that position (R164)
and each half-slot energy is at most 46340 for every sample of that half already consumed, so at most 231,700 (R165,
10_state R30). -/
def AlignmentInv (s : State) : Prop :=
  s.fr.mode = .active →
    let idx := (s.pos - s.fr.dStart).toNat
    let r := idx % spu s.fr.rate
    s.fr.dStart = s.fr.anchor.position + BitVec.ofNat 64 (preLen * half s.fr.anchor.chanRate) ∧
    s.fr.e0.toNat ≤ 231700 ∧ s.fr.e1.toNat ≤ 231700 ∧
    ((s.pos - s.fr.dStart).toInt < 0 →
      s.fr.j = 0 ∧ s.fr.e0 = 0 ∧ s.fr.e1 = 0 ∧ s.fr.b0 = false ∧ s.fr.b1 = false) ∧
    (0 ≤ (s.pos - s.fr.dStart).toInt →
      idx / spu s.fr.rate = s.fr.j.toNat ∧
      s.fr.e0.toNat ≤ 46340 * min r (half s.fr.rate) ∧
      s.fr.e1.toNat ≤ 46340 * (r - half s.fr.rate))

/-- What the operations of the environment keep: the parameters are those a core can be built with, nothing is on the bench,
the internal streams are empty between ticks (10_state R33), and the stages are in states that a stream of samples
produces. -/
def PipeInv (s : State) : Prop :=
  paramsLegal s.params = true ∧ s.host.bench = [] ∧ s.streams = Streams.empty ∧ DetectorInv s ∧
    MatcherInv s ∧ WindowInv s ∧ AlignmentInv s

end Sys2Proof.Machine
end

