-- ==== Sys2Proof/Certificates/Slice0/Obligations.lean ====
section
/-! DEFINITION. The statements for the provers. Each is about the machine, none about a program; the docstring names the
rules of spec/ it formalises, and says where a clause is the model's own choice. -/

open Sys2Proof Sys2Proof.Machine

/-! ## Encoding -/

/-- Decoding what the encoder writes gives the operation back, and leaves the bytes after it. The op ids are
30_encoding R90's and the record layouts R71 to R79's; the tag byte and the packing into bytes are the model's DESIGN CHOICE
(notes/assumptions/2.md). -/
def Obligations.DecodeOfEncode : Prop :=
  ∀ (i : Instr) (rest : List Byte), i.WellFormed → decode (encode i ++ rest) = .ok (i, rest)

/-- What the decoder answers is a well-formed operation, taken off the front of the bytes. The queue of bytes
(notes/assumptions/2.md) and the refusal of ill-formed operands (notes/assumptions/21.md) are the model's DESIGN CHOICE: the
hardware has neither; what well-formed means are the field ranges of 30_encoding R71 to R79. -/
def Obligations.DecodeTakesWellFormedFront : Prop :=
  ∀ (bs : List Byte) (i : Instr) (rest : List Byte), decode bs = .ok (i, rest) →
    i.WellFormed ∧ ∃ used, used ≠ [] ∧ bs = used ++ rest

/-- Words written out from the op ids of 30_encoding R90, the record fields of R71 and R75 and the `CMD` codes of R84 decode
to their operations (95_test_vectors V-M7, V-H13). That an op id is the first byte, and that a record's bits follow it least
significant byte first, is the model's DESIGN CHOICE (notes/assumptions/2.md): the hardware has no such field (R90). -/
def Obligations.SpecWordsDecode : Prop :=
  decode [0x17, 0xFB, 0xFF, 0x0C, 0x00, 0x00]
    = .ok (.push { i := -5, q := 12, bad := false }, []) ∧
  decode [0x04, 16, 0, 0, 0, 0, 0, 0, 0, 0x11]
    = .ok (.frameOpen { position := 16, chanRate := .msps10, confidence := 8 }, []) ∧
  decode [0x11, 0x08, 0, 0, 0, 0xF1, 0xFF, 0xFF, 0xFF] = .ok (.start 0x3FFFFFFC, []) ∧
  decode [0x12, 0x0C, 0, 0, 0] = .ok (.rdreg 0x0C, []) ∧
  decode [0x0B] = .error (.unassigned 0x0B)

/-- The fields of each record lie at the bits that 30_encoding R71, R72, R73, R75, R76 and R79 give them. -/
def Obligations.RecordFieldsLieAtTheirBits : Prop :=
  (∀ s : Sample, s.toBits.extractLsb' 0 16 = s.i ∧ s.toBits.extractLsb' 16 16 = s.q ∧
    s.toBits.getLsbD 32 = s.bad) ∧
  (∀ e : EnvSample, e.toBits.extractLsb' 0 16 = e.amp ∧ e.toBits.getLsbD 16 = e.bad) ∧
  (∀ e : PulseEdge, e.toBits.extractLsb' 0 64 = e.position ∧
    e.toBits.getLsbD 64 = decide (e.kind = .falling) ∧
    e.toBits.extractLsb' 65 16 = e.amplitude) ∧
  (∀ a : Anchor, a.toBits.extractLsb' 0 64 = a.position ∧
    a.toBits.getLsbD 64 = decide (a.chanRate = .msps10) ∧
    a.toBits.extractLsb' 65 4 = a.confidence) ∧
  (∀ o : SlotObs, o.toBits.extractLsb' 0 18 = o.e1 ∧ o.toBits.extractLsb' 18 18 = o.e2 ∧
    o.toBits.getLsbD 36 = o.b1 ∧ o.toBits.getLsbD 37 = o.b2 ∧ o.toBits.extractLsb' 38 7 = o.j) ∧
  (∀ f : DecodedFrame, f.toBits.extractLsb' 0 112 = f.bits ∧
    f.toBits.getLsbD 112 = decide (f.long = .long) ∧
    (f.toBits.extractLsb' 113 2).toNat =
      (match f.status with | .clean => 0 | .corrected => 1 | .invalid => 2) ∧
    f.toBits.extractLsb' 115 2 = f.dist ∧ f.toBits.extractLsb' 117 64 = f.position)

/-! ## Steps and invariants -/

/-- A step performs the operation that the waiting bytes decode to, taken off the queue, and refuses one that is none of the
nine operations of the environment (47_host_commands R220, R230); with none waiting it changes nothing (60_exceptions R257);
bytes that are no operation stop it by name; a machine with parameters that 93_implementation_defined section 2 refuses does
not run (notes/assumptions/8.md). The queue, and the bench that holds a single operation to be examined alone, are the
model's DESIGN CHOICE (notes/assumptions/1.md, 4.md). -/
def Obligations.StepPerformsDecodedOperation : Prop :=
  ∀ s : State,
    (paramsLegal s.params = false → step s = .refused .illegalParameters) ∧
    (paramsLegal s.params = true → s.host.bench = [] →
      (∀ i rest, decode s.host.ops = .ok (i, rest) → external i = true →
        step s = exec i { s with host := { s.host with ops := rest } }) ∧
      (∀ i rest, decode s.host.ops = .ok (i, rest) → external i = false →
        step s = .refused .notExternal) ∧
      (s.host.ops = [] → step s = .next s) ∧
      (∀ why, s.host.ops ≠ [] → decode s.host.ops = .error why →
        step s = .refused (.undecodable why))) ∧
    (paramsLegal s.params = true → s.host.bench ≠ [] →
      (∀ i rest, decode s.host.bench = .ok (i, rest) →
        step s = exec i { s with host := { s.host with bench := [] } }) ∧
      (∀ why, decode s.host.bench = .error why → step s = .refused (.undecodable why)))

/-- Every step keeps `CoreInv`, from every state that has it: STATUS shows an error code exactly in FAULT (60_exceptions
R242), candidates are whole and frames legal (30_encoding R78, R79). It also leaves the bench empty: the bench is the
model's own field and DESIGN CHOICE (notes/assumptions/4.md), no rule of the spec names it. -/
def Obligations.StepKeepsCoreInv : Prop :=
  ∀ s t : State, CoreInv s → step s = .next t → CoreInv t ∧ t.host.bench = []

/-- The state after hard reset has both invariants (10_state R36). -/
def Obligations.ResetHasInvariants : Prop := CoreInv State.reset ∧ PipeInv State.reset

/-- Every operation of the environment keeps `PipeInv`, and so does every step: the internal streams are empty between
ticks, the stages are in states that samples produce, an open window has the length its first five bits select, begins
`16 * HALF` samples after its Anchor, stands in the slot of its position and holds half-slot energies of at most 231,700
(43_framer R161, R164, R165; 10_state R30). -/
def Obligations.EnvironmentKeepsPipeInv : Prop :=
  (∀ (i : Instr) (s t : State), external i = true → PipeInv s → exec i s = .next t → PipeInv t) ∧
  (∀ s t : State, PipeInv s → step s = .next t → PipeInv t)

/-- A tick appends at most one record; it carries the position of the one Anchor whose window was open (43_framer R171), and
its class guarantees what 46_error_corrector R208 says: its bits are the provisional bits of the symbols that the window
left in the candidate store, or differ from them in exactly `dist` positions and divide; it is of its length class; and an
invalid one had more ambiguous symbols than the budget or no flip-set that reconciles it, and shows only under
`pass_all`. -/
def Obligations.PushEmitsOnlyGuaranteedFrames : Prop :=
  ∀ (smp : Sample) (s t : State), PipeInv s → exec (.push smp) s = .next t →
    ∃ new, t.outq = s.outq ++ new ∧ new.length ≤ 1 ∧
      ∀ f ∈ new, s.fr.mode = .active ∧ f.position = s.fr.anchor.position ∧
        ClassGuarantee s.params s.cfg t.cand f

/-- The records that `START; PUSH S; STOP` appends are the same from every idle state with the same `CTRL`, `SRC_RATE` and
parameters (70_reset_and_hazards R273). -/
def Obligations.SessionOutputIsDetermined : Prop :=
  ∀ (smps : List Sample) (s₁ s₂ t₁ : State),
    s₁.run = .idle → s₂.run = .idle → s₁.ctrl = s₂.ctrl → s₁.srcRate = s₂.srcRate →
    s₁.params = s₂.params → execAll (session smps) s₁ = .next t₁ →
    ∃ t₂ new, execAll (session smps) s₂ = .next t₂ ∧
      t₁.outq = s₁.outq ++ new ∧ t₂.outq = s₂.outq ++ new

/-- No operation reads the host's side: what it holds (the event log of 60_exceptions R241 among it) changes nothing else in
the next state. That these fields stand there is the model's choice (notes/assumptions/6.md, 7.md). -/
def Obligations.HostSideIsNeverRead : Prop :=
  ∀ (i : Instr) (s t : State) (h : HostSide), exec i s = .next t →
    ∃ h', exec i { s with host := h } = .next { t with host := h' }

/-- `CTRL` and `SRC_RATE` change only by a register write in IDLE or by RESET, `cfg` only by START in IDLE or by RESET, the
parameters never (10_state R27, 20_memory R61, 70_reset_and_hazards R275). -/
def Obligations.ConfigurationIsLocked : Prop :=
  ∀ (i : Instr) (s t : State), exec i s = .next t →
    (t.ctrl ≠ s.ctrl ∨ t.srcRate ≠ s.srcRate →
      (s.run = .idle ∧ ∃ off v, i = .wrcfg off v) ∨ i = .reset) ∧
    (t.cfg ≠ s.cfg → (s.run = .idle ∧ ∃ u, i = .start u) ∨ i = .reset) ∧
    t.params = s.params

/-- The run state changes only as 10_state R21 lists: IDLE to RUNNING or FAULT by START, RUNNING to IDLE by STOP, any to IDLE
by CLEAR and RESET; and the error code of STATUS changes only by START, CLEAR and RESET (R26). -/
def Obligations.RunStateTransitions : Prop :=
  ∀ (i : Instr) (s t : State), exec i s = .next t →
    (t.run ≠ s.run →
      (s.run = .idle ∧ t.run ≠ .idle ∧ ∃ u, i = .start u) ∨
      (s.run = .running ∧ t.run = .idle ∧ ∃ u, i = .stop u) ∨
      (t.run = .idle ∧ (i = .reset ∨ ∃ u, i = .clear u))) ∧
    (t.err ≠ s.err → i = .reset ∨ ∃ u, i = .start u ∨ i = .clear u)

/-- `pos` moves only by one at a PUSH, and goes to zero only by START, CLEAR and RESET (60_exceptions R253). -/
def Obligations.PositionCounterMoves : Prop :=
  ∀ (i : Instr) (s t : State), exec i s = .next t →
    (∃ smp, i = .push smp ∧ t.pos = s.pos + 1) ∨
    ((∀ smp, i ≠ .push smp) ∧
      (t.pos = s.pos ∨ (t.pos = 0 ∧ (i = .reset ∨ ∃ u, i = .start u ∨ i = .clear u))))

/-- The frame port is first in, first out without loss or duplication: but for CLEAR and RESET, what the sink has taken
followed by what waits only grows at its end (20_memory R57, R63). -/
def Obligations.FramePortIsFifo : Prop :=
  ∀ (i : Instr) (s t : State), exec i s = .next t → i ≠ .reset → (∀ u, i ≠ .clear u) →
    ∃ new, t.host.taken ++ t.outq = s.host.taken ++ s.outq ++ new ∧ new.length ≤ 1 ∧
      (i ≠ .pop → t.host.taken = s.host.taken)

/-! ## Stage 1 -/

/-- MAG emits one envelope sample: the floor of the root of `I*I + Q*Q`, at most 46340, or amplitude 0 and `bad`
(40_magnitude R100). Nothing else changes. -/
def Obligations.MagEmitsFloorOfRoot : Prop :=
  ∀ (smp : Sample) (s : State), ∃ e : EnvSample,
    exec (.mag smp) s =
      .next { s with streams := { s.streams with envelope := s.streams.envelope ++ [e] } } ∧
    (smp.bad = true → e = { amp := 0, bad := true }) ∧
    (smp.bad = false → e.bad = false ∧ e.amp.toNat ≤ 46340 ∧
      (e.amp.toNat : Int) * e.amp.toNat ≤ smp.i.toInt * smp.i.toInt + smp.q.toInt * smp.q.toInt ∧
      smp.i.toInt * smp.i.toInt + smp.q.toInt * smp.q.toInt <
        ((e.amp.toNat : Int) + 1) * (e.amp.toNat + 1))

/-! ## Stage 2 -/

/-- EDGE in LOW: a rise makes a candidate, anything else changes nothing (41_pulse_detector R112). -/
def Obligations.EdgeInLow : Prop :=
  ∀ (e : EnvSample) (s : State), s.pd.mode = .low →
    exec (.edge e) s = .next
      (if e.bad = false ∧ s.pd.hist[1].bad = false ∧
          exceeds s.cfg.threshSel e.amp.toNat s.pd.hist[1].amp.toNat = true then
        { s with pd := { s.pd with
            mode := .rconf, rPos := s.pos, rRef := s.pd.hist[1].amp, rCnt := 1, rAmp := e.amp } }
      else s)

/-- EDGE in RCONF: the run goes on, is confirmed at `RUN` samples, 2 or 3 by
the rate (00_scope R6), or breaks with `EdgeAmbiguity` and no edge
(41_pulse_detector R113, 60_exceptions R246). -/
def Obligations.EdgeInRconf : Prop :=
  ∀ (e : EnvSample) (s : State), s.pd.mode = .rconf →
    exec (.edge e) s = .next
      (if e.bad = false ∧ exceeds s.cfg.threshSel e.amp.toNat s.pd.rRef.toNat = true then
        { s with pd :=
          if (s.pd.rCnt + 1).toNat = (match s.cfg.rateSel with | .msps8 => 2 | .msps10 => 3) then
            { s.pd with
              rCnt := s.pd.rCnt + 1, mode := .high, start := s.pd.rPos,
              rAmp := BitVec.ofNat 16 (max s.pd.rAmp.toNat e.amp.toNat),
              amp := BitVec.ofNat 16 (max s.pd.rAmp.toNat e.amp.toNat) }
          else
            { s.pd with
              rCnt := s.pd.rCnt + 1,
              rAmp := BitVec.ofNat 16 (max s.pd.rAmp.toNat e.amp.toNat) } }
      else
        { s with
          pd := { s.pd with mode := .low },
          host := { s.host with
            log := s.host.log ++ [.edgeAmbiguity (.rising s.pd.rPos)] } })

/-- EDGE in HIGH: the overlong test, against `W_MAX` 9 or 11 by the rate (00_scope R6), comes first and abandons the pulse,
then a fall makes a candidate (41_pulse_detector R114). -/
def Obligations.EdgeInHigh : Prop :=
  ∀ (e : EnvSample) (s : State), s.pd.mode = .high →
    exec (.edge e) s = .next
      (if (match s.cfg.rateSel with | .msps8 => 9 | .msps10 => 11) < (s.pos - s.pd.start).toNat then
        { s with
          pd := { s.pd with mode := .low },
          host := { s.host with log := s.host.log ++ [.pulseRejected .overlong s.pd.start] } }
      else if e.bad = false ∧ s.pd.hist[1].bad = false ∧
          exceeds s.cfg.threshSel s.pd.hist[1].amp.toNat e.amp.toNat = true then
        { s with pd := { s.pd with
            mode := .fconf, fPos := s.pos, fRef := s.pd.hist[1].amp, fCnt := 1 } }
      else s)

/-- EDGE in FCONF: a fall confirmed at `RUN` samples, 2 or 3 by the rate, emits a pulse of valid width, 3 to 9 or 4 to 11 by
the rate (00_scope R6), and nothing else; a broken run returns to HIGH (41_pulse_detector R115, R116). -/
def Obligations.EdgeInFconf : Prop :=
  ∀ (e : EnvSample) (s : State), s.pd.mode = .fconf →
    exec (.edge e) s = .next
      (if e.bad = false ∧ exceeds s.cfg.threshSel s.pd.fRef.toNat e.amp.toNat = true then
        if (s.pd.fCnt + 1).toNat = (match s.cfg.rateSel with | .msps8 => 2 | .msps10 => 3) then
          if (match s.cfg.rateSel with | .msps8 => 3 | .msps10 => 4) ≤
                (s.pd.fPos - s.pd.start).toNat ∧
              (s.pd.fPos - s.pd.start).toNat ≤
                (match s.cfg.rateSel with | .msps8 => 9 | .msps10 => 11) then
            { s with
              pd := { s.pd with fCnt := s.pd.fCnt + 1, mode := .low },
              streams := { s.streams with pulse := s.streams.pulse ++
                [{ start := s.pd.start, stop := s.pd.fPos,
                   width := BitVec.ofNat 4 (s.pd.fPos - s.pd.start).toNat,
                   amp := s.pd.amp, famp := s.pd.fRef }] } }
          else
            { s with
              pd := { s.pd with fCnt := s.pd.fCnt + 1, mode := .low },
              host := { s.host with log := s.host.log ++ [.pulseRejected .glitch s.pd.start] } }
        else { s with pd := { s.pd with fCnt := s.pd.fCnt + 1 } }
      else
        { s with
          pd := { s.pd with mode := .high },
          host := { s.host with
            log := s.host.log ++ [.edgeAmbiguity (.falling s.pd.fPos)] } })

/-- An ideal pulse of amplitude `a` over level `n` and of a valid width `w` (00_scope R6) that begins at `pos` in LOW is
found at `pos`, confirmed after `RUN` samples, ended by the first sample after it, and emitted whole `RUN` samples after its
end, with no event raised (41_pulse_detector R119). -/
def Obligations.IdealPulseIsDetected : Prop :=
  ∀ (a n : Amp) (w : Nat) (s : State),
    let run := (match s.cfg.rateSel with | .msps8 => 2 | .msps10 => 3)
    s.pd.mode = .low → s.pd.hist = #v[{ amp := n, bad := false }, { amp := n, bad := false }] →
    exceeds s.cfg.threshSel a.toNat n.toNat = true →
    (match s.cfg.rateSel with | .msps8 => 3 | .msps10 => 4) ≤ w →
    w ≤ (match s.cfg.rateSel with | .msps8 => 9 | .msps10 => 11) →
    (detect [{ amp := a, bad := false }] s).pd.mode = .rconf ∧
    (detect (List.replicate run { amp := a, bad := false }) s).pd.mode = .high ∧
    (detect (List.replicate w { amp := a, bad := false } ++ [{ amp := n, bad := false }]) s).pd.mode
      = .fconf ∧
    let t := detect (List.replicate w { amp := a, bad := false } ++
      List.replicate run { amp := n, bad := false }) s
    t.pd.mode = .low ∧ t.host.log = s.host.log ∧
      t.pos = s.pos + BitVec.ofNat 64 (w + run) ∧
      t.streams.pulse = s.streams.pulse ++
        [{ start := s.pos, stop := s.pos + BitVec.ofNat 64 w, width := BitVec.ofNat 4 w,
           amp := a, famp := a }]

/-! ## Stage 3 -/

/-- FIRST: in SEARCHING a pulse of nominal width, 4 or 5 by the rate, within `TOL = 1` (00_scope R6) begins a candidate, any
other leaves SEARCHING (42_preamble_sync R142). -/
def Obligations.SyncFirstPulse : Prop :=
  ∀ (p : Pulse) (s : State), s.ps.k = 0 →
    exec (.sync p) s = .next
      { s with ps :=
        if ((p.width.toNat : Int) - (match s.cfg.rateSel with | .msps8 => 4 | .msps10 => 5)).natAbs ≤ 1 then
          { k := 1, p0 := p.start,
            conf := if p.width.toNat = (match s.cfg.rateSel with | .msps8 => 4 | .msps10 => 5)
              then 2 else 1 }
        else { s.ps with k := 0 } }

/-- A pulse that does not continue a partial match raises `SyncFail` and is given the first-pulse test at once, as if no
pulse had been matched (42_preamble_sync R141, R143). -/
def Obligations.SyncFailedContinuation : Prop :=
  ∀ (p : Pulse) (s : State), s.ps.k ≠ 0 →
    (tol s.cfg.rateSel < (p.start - (s.ps.p0 +
        BitVec.ofNat 64 (preRise s.params s.ps.k * half s.cfg.rateSel))).toInt.natAbs ∨
     tol s.cfg.rateSel < (p.stop - (s.ps.p0 +
        BitVec.ofNat 64 (preFall s.params s.ps.k * half s.cfg.rateSel))).toInt.natAbs) →
    exec (.sync p) s = exec (.sync p)
      { s with
        ps := { s.ps with k := 0 },
        host := { s.host with log := s.host.log ++ [.syncFail s.ps.k s.ps.p0] } }

/-- A pulse whose edges are both within `TOL = 1` (00_scope R6) of the next template pulse continues the match: confidence
grows by its edges that sit exactly on the template, and the fourth pulse emits the Anchor and goes back to SEARCHING
(42_preamble_sync R141, R145, R146). -/
def Obligations.SyncContinuation : Prop :=
  ∀ (p : Pulse) (s : State),
    let h := (match s.cfg.rateSel with | .msps8 => 4 | .msps10 => 5)
    let rise := s.ps.p0 + BitVec.ofNat 64 (preRise s.params s.ps.k * h)
    let fall := s.ps.p0 + BitVec.ofNat 64 (preFall s.params s.ps.k * h)
    let conf := BitVec.ofNat 4 (s.ps.conf.toNat + (if p.start = rise then 1 else 0) +
      (if p.stop = fall then 1 else 0))
    (p.start - rise).toInt.natAbs ≤ 1 →
    (p.stop - fall).toInt.natAbs ≤ 1 →
    (s.ps.k = 1 ∨ s.ps.k = 2 → exec (.sync p) s = .next
      { s with ps := { s.ps with k := s.ps.k + 1, conf := conf } }) ∧
    (s.ps.k = 3 → exec (.sync p) s = .next
      { s with
        ps := { s.ps with k := 0, conf := conf },
        streams := { s.streams with anchor := s.streams.anchor ++
          [{ position := s.ps.p0, chanRate := s.cfg.rateSel, confidence := conf }] } })

/-- Four pulses whose edges are within `TOL` of the template, the first of nominal width within `TOL`, make one Anchor at the
first pulse's start; its confidence counts the edges that sit exactly on the template, and the matcher is SEARCHING again
(42_preamble_sync R140 to R146). -/
def Obligations.PreambleWithinToleranceAnchors : Prop :=
  ∀ (q0 q1 q2 q3 : Pulse) (s : State),
    let h := half s.cfg.rateSel
    let rise := fun k : BitVec 2 => q0.start + BitVec.ofNat 64 (preRise s.params k * h)
    let fall := fun k : BitVec 2 => q0.start + BitVec.ofNat 64 (preFall s.params k * h)
    let near := fun (q : Pulse) (k : BitVec 2) =>
      (q.start - rise k).toInt.natAbs ≤ tol s.cfg.rateSel ∧
        (q.stop - fall k).toInt.natAbs ≤ tol s.cfg.rateSel
    let score := fun (q : Pulse) (k : BitVec 2) =>
      (if q.start = rise k then 1 else 0) + (if q.stop = fall k then 1 else 0)
    s.ps.k = 0 → ((q0.width.toNat : Int) - h).natAbs ≤ tol s.cfg.rateSel →
    near q1 1 → near q2 2 → near q3 3 →
    ∃ a : Anchor,
      (matchPulses [q0, q1, q2, q3] s).streams.anchor = s.streams.anchor ++ [a] ∧
      (matchPulses [q0, q1, q2, q3] s).ps.k = 0 ∧
      (matchPulses [q0, q1, q2, q3] s).host.log = s.host.log ∧
      a.position = q0.start ∧ a.chanRate = s.cfg.rateSel ∧
      a.confidence.toNat =
        1 + (if q0.width.toNat = h then 1 else 0) + score q1 1 + score q2 2 + score q3 3

/-! ## Stage 4 -/

/-- FRAME.OPEN: with no window open an Anchor opens one that begins `16 * HALF` samples after it, else the Anchor is dropped
and nothing but the log changes (43_framer R161, R162). -/
def Obligations.FrameOpenOrDrop : Prop :=
  ∀ (a : Anchor) (s : State),
    (s.fr.mode = .idle → exec (.frameOpen a) s = .next
      { s with
        fr := { mode := .active, anchor := a, rate := a.chanRate, j := 0, n := .short,
                dStart := a.position + (match a.chanRate with | .msps8 => 64 | .msps10 => 80),
                e0 := 0, e1 := 0, b0 := false, b1 := false },
        cand := { sym := Vector.replicate 112 .zero, nAmb := 0 } }) ∧
    (s.fr.mode = .active → exec (.frameOpen a) s = .next
      { s with host := { s.host with log := s.host.log ++ [.anchorDropped a.position] } })

/-- FRAME.ACC with no window open, or before the window's first sample, changes nothing (43_framer R164). `n >= d_start` is
the model's reading of the comparison at the wrap (notes/assumptions/10.md). -/
def Obligations.FrameAccOutsideWindow : Prop :=
  ∀ (e : EnvSample) (s : State),
    (s.fr.mode = .idle ∨ (s.pos - s.fr.dStart).toInt < 0) → exec (.frameAcc e) s = .next s

/-- FRAME.ACC inside a slot, which is 8 or 10 samples by the rate (00_scope R6): a good sample joins the energy of its
half-slot, a bad one marks it, nothing else changes (43_framer R164). -/
def Obligations.FrameAccInsideSlot : Prop :=
  ∀ (e : EnvSample) (s : State), s.fr.mode = .active → 0 ≤ (s.pos - s.fr.dStart).toInt →
    let slot := match s.fr.rate with | .msps8 => 8 | .msps10 => 10
    let r := (s.pos - s.fr.dStart).toNat % slot
    r + 1 ≠ slot →
    exec (.frameAcc e) s = .next
      { s with fr :=
        if r < (match s.fr.rate with | .msps8 => 4 | .msps10 => 5) then
          (if e.bad = true then { s.fr with b0 := true }
           else { s.fr with e0 := BitVec.ofNat 18 (s.fr.e0.toNat + e.amp.toNat) })
        else
          (if e.bad = true then { s.fr with b1 := true }
           else { s.fr with e1 := BitVec.ofNat 18 (s.fr.e1.toNat + e.amp.toNat) }) }

/-- A whole slot of good samples, neither slot 4 nor the last of its window, becomes one symbol by the sums of its two halves
(43_framer R163 to R165, 44_ppm_decoder R181). -/
def Obligations.SlotBecomesSymbolOfItsEnergies : Prop :=
  ∀ (es : List EnvSample) (s : State),
    s.fr.mode = .active → s.streams.slot = [] →
    (s.pos - s.fr.dStart).toNat = s.fr.j.toNat * spu s.fr.rate →
    s.fr.e0 = 0 → s.fr.e1 = 0 → s.fr.b0 = false → s.fr.b1 = false →
    s.fr.j.toNat + 1 < s.fr.n.slots → s.fr.j.toNat ≠ 4 →
    es.length = spu s.fr.rate → (∀ e ∈ es, e.bad = false ∧ e.amp.toNat ≤ 46340) →
    let t := accumulate es s
    let E1 := ampSum (es.take (half s.fr.rate))
    let E2 := ampSum (es.drop (half s.fr.rate))
    let x : Sym := if exceeds s.cfg.threshSel E1 E2 = true then .one
      else if exceeds s.cfg.threshSel E2 E1 = true then .zero else .ambig
    t.fr = { s.fr with j := s.fr.j + 1 } ∧
    t.cand.sym = s.cand.sym.setIfInBounds s.fr.j.toNat x ∧
    t.cand.nAmb = s.cand.nAmb + (if x = .ambig then 1 else 0) ∧
    t.streams = s.streams ∧ t.outq = s.outq ∧ t.ps = s.ps

/-- The sample that completes a slot other than slot 4 and the last one stores the slot's symbol and begins the next slot;
nothing else changes (43_framer R164, 44_ppm_decoder R181). -/
def Obligations.SlotEndStoresSymbol : Prop :=
  ∀ (e : EnvSample) (s : State), s.fr.mode = .active → 0 ≤ (s.pos - s.fr.dStart).toInt →
    (s.pos - s.fr.dStart).toNat % spu s.fr.rate + 1 = spu s.fr.rate →
    s.streams.slot = [] → s.fr.j ≠ 4 → s.fr.j.toNat + 1 ≠ s.fr.n.slots →
    let x := symbolOf s.cfg.threshSel (endedSlot e s)
    exec (.frameAcc e) s = .next
      { s with
        fr := { s.fr with e0 := 0, e1 := 0, b0 := false, b1 := false, j := s.fr.j + 1 },
        cand := storeAfter s.fr.j x s.cand, host := hostAfter s.fr.j x s.host }

/-- The sample that completes slot 4 stores its symbol and then sets the window's length by the first five provisional
bits (43_framer R164, R167). -/
def Obligations.SlotFourSelectsLength : Prop :=
  ∀ (e : EnvSample) (s : State), s.fr.mode = .active → 0 ≤ (s.pos - s.fr.dStart).toInt →
    (s.pos - s.fr.dStart).toNat % spu s.fr.rate + 1 = spu s.fr.rate →
    s.streams.slot = [] → s.fr.j = 4 →
    let x := symbolOf s.cfg.threshSel (endedSlot e s)
    let cand := storeAfter 4 x s.cand
    exec (.frameAcc e) s = .next
      { s with
        fr := { s.fr with
          e0 := 0, e1 := 0, b0 := false, b1 := false, j := 5,
          n := lengthOf s.params (provisional (cand.sym.toList.take 5)) },
        cand := cand, host := hostAfter 4 x s.host }

/-- The sample that completes the last slot closes the window and emits its candidate, which holds the anchor, the length,
the symbols and the count of ambiguous ones (43_framer R168). -/
def Obligations.LastSlotClosesWindow : Prop :=
  ∀ (e : EnvSample) (s : State), s.fr.mode = .active → 0 ≤ (s.pos - s.fr.dStart).toInt →
    (s.pos - s.fr.dStart).toNat % spu s.fr.rate + 1 = spu s.fr.rate →
    s.streams.slot = [] → s.fr.j.toNat + 1 = s.fr.n.slots →
    let x := symbolOf s.cfg.threshSel (endedSlot e s)
    let cand := storeAfter s.fr.j x s.cand
    exec (.frameAcc e) s = .next
      { s with
        fr := { s.fr with
          mode := .idle, e0 := 0, e1 := 0, b0 := false, b1 := false, j := s.fr.j + 1 },
        cand := cand, host := hostAfter s.fr.j x s.host,
        streams := { s.streams with candidate := s.streams.candidate ++
          [{ anchor := s.fr.anchor, len := s.fr.n, sym := cand.sym.toList.take s.fr.n.slots,
             nAmb := cand.nAmb }] } }

/-- FRAME.LEN sets the length to 112 if `IS_LONG` holds of the number of the first five provisional bits, else to 56, and
changes nothing else (43_framer R167). -/
def Obligations.FrameLenSelectsLength : Prop :=
  ∀ s : State,
    let b := fun k : Fin 5 => if s.cand.sym[k.val]'(by omega) = Sym.one then 1 else 0
    exec .frameLen s = .next
      { s with fr := { s.fr with
          n := if s.params.isLong.getLsbD (16 * b 0 + 8 * b 1 + 4 * b 2 + 2 * b 3 + b 4) = true
            then .long else .short } }

/-- The format field decode: a field is long exactly if `IS_LONG` of its number says so (30_encoding R86). That FMT.SHORT
and FMT.LONG are operations which set `fr.n` by it is the model's DESIGN CHOICE (notes/assumptions/13.md). With the default
predicate, which is PRESUMED (notes/assumptions/9.md), FMT.SHORT selects 56 and FMT.LONG 112. -/
def Obligations.FormatFieldSelectsLength : Prop :=
  ∀ (low : BitVec 4) (s : State),
    exec (.fmtShort low) s = .next { s with fr := { s.fr with
      n := if s.params.isLong.getLsbD low.toNat = true then .long else .short } } ∧
    exec (.fmtLong low) s = .next { s with fr := { s.fr with
      n := if s.params.isLong.getLsbD (16 + low.toNat) = true then .long else .short } } ∧
    (s.params = Params.default →
      exec (.fmtShort low) s = .next { s with fr := { s.fr with n := .short } } ∧
      exec (.fmtLong low) s = .next { s with fr := { s.fr with n := .long } })

/-! ## Stage 5 -/

/-- PPM stores one symbol: AMBIG if a half is bad or neither energy stands `T` dB above the other, else the half with the
energy; it counts and logs an AMBIG (44_ppm_decoder R181, R182). -/
def Obligations.PpmStoresSymbol : Prop :=
  ∀ (o : SlotObs) (s : State),
    let above := fun x y : Energy =>
      y.toNat < x.toNat ∧ y.toNat * gain s.cfg.threshSel ≤ x.toNat * 256
    let ambiguous := o.b1 = true ∨ o.b2 = true ∨ (¬above o.e1 o.e2 ∧ ¬above o.e2 o.e1)
    (ambiguous → exec (.ppm o) s = .next
      { s with
        cand := { sym := s.cand.sym.setIfInBounds o.j.toNat .ambig, nAmb := s.cand.nAmb + 1 },
        host := { s.host with log := s.host.log ++ [.edgeAmbiguity (.bit o.j)] } }) ∧
    (¬ambiguous → above o.e1 o.e2 → exec (.ppm o) s = .next
      { s with cand := { s.cand with sym := s.cand.sym.setIfInBounds o.j.toNat .one } }) ∧
    (¬ambiguous → above o.e2 o.e1 → exec (.ppm o) s = .next
      { s with cand := { s.cand with sym := s.cand.sym.setIfInBounds o.j.toNat .zero } })

/-- The threshold comparison is `y < x` and `y * GN[T] <= 256 * x`, with the sixteen values of 00_scope R6. It is scale-free
and one-sided: multiplying both sides by the same factor changes nothing, and of two energies at most one exceeds the other
(44_ppm_decoder R181, R185; 00_scope R12). -/
def Obligations.ComparisonIsScaleFree : Prop :=
  ∀ (t : BitVec 4) (c x y : Nat), 1 ≤ c →
    (exceeds t x y = true ↔ y < x ∧
      y * [256, 287, 322, 362, 406, 455, 511, 573, 643, 722, 810, 908, 1019, 1144, 1283, 1440].getD
        t.toNat 0 ≤ 256 * x) ∧
    exceeds t (c * x) (c * y) = exceeds t x y ∧
    ¬(exceeds t x y = true ∧ exceeds t y x = true) ∧
    (0 < x → exceeds t x 0 = true) ∧ exceeds t x x = false

/-! ## Stages 6 and 7 -/

/-- The syndrome is the remainder by the generator: it starts at 0, one more bit shifts it and takes the generator off if a
1 falls out (45_parity_checker R190), so that `x^24` leaves `CRC_POLY`. It is linear; a set of flips changes it by the
syndromes of the single flips; a single flip's syndrome is the power of `x` of its distance from the end of the frame, and
inside the parity field it is one bit (R195). -/
def Obligations.SyndromeIsLinear : Prop :=
  ∀ poly : Syndrome,
    (syndrome poly [] = 0 ∧ ∀ (v : List Bool) (b : Bool),
      syndrome poly (v ++ [b]) =
        let r := syndrome poly v
        let shifted := (r <<< 1) ||| (if b = true then 1 else 0)
        if r.getLsbD 23 = true then shifted ^^^ poly else shifted) ∧
    syndrome poly (true :: List.replicate 24 false) = poly ∧
    (∀ a b : List Bool, a.length = b.length →
      syndrome poly (List.zipWith xor a b) = syndrome poly a ^^^ syndrome poly b) ∧
    (∀ (v : List Bool) (f : List Nat), f.Nodup → (∀ p ∈ f, p < v.length) →
      syndrome poly (flipBits v f) =
        f.foldl (fun x p => x ^^^ flipSyndrome poly v.length p) (syndrome poly v)) ∧
    (∀ p < 56, flipSyndrome poly 56 p = flipSyndrome poly 112 (p + 56)) ∧
    (∀ n p : Nat, p < n → n ≤ p + 24 → flipSyndrome poly n p = 1#24 <<< (n - 1 - p)) ∧
    (∀ n p : Nat, p + 1 < n → flipSyndrome poly n p =
      let r := flipSyndrome poly n (p + 1)
      if r.getLsbD 23 = true then (r <<< 1) ^^^ poly else r <<< 1) ∧
    (∀ n p : Nat, p < n →
      flipSyndrome poly n p = syndrome poly (true :: List.replicate (n - 1 - p) false))

/-- Recomputing the parity over the payload and comparing it with the parity field is one division: the syndrome of a frame
is the exclusive-or of the two (45_parity_checker R191). -/
def Obligations.SyndromeIsParityDifference : Prop :=
  ∀ (poly : Syndrome) (v : List Bool), 24 ≤ v.length →
    syndrome poly v =
      parity poly (v.take (v.length - 24)) ^^^ BitVec.ofNat 24 (msbNat (v.drop (v.length - 24)))

/-- CRC: more ambiguous symbols than the budget make the frame invalid whatever its syndrome; else a zero syndrome makes it
clean with the provisional bits; else FIX gets it with its bits and its syndrome (45_parity_checker R192, R197). -/
def Obligations.CrcClassifies : Prop :=
  ∀ (c : Candidate) (s : State),
    let v := c.sym.map (fun x => decide (x = Sym.one))
    let syn := syndrome s.params.crcPoly v
    (s.params.maxDist < c.nAmb.toNat → exec (.crc c) s = .next
      { s with
        outq := if s.cfg.passAll = true then s.outq ++ [frameOf c.anchor c.len v .invalid 0]
          else s.outq,
        host := { s.host with
          log := s.host.log ++ [.uncorrectableFrame c.anchor.position] } }) ∧
    (c.nAmb.toNat ≤ s.params.maxDist → syn = 0 → exec (.crc c) s = .next
      { s with outq := s.outq ++ [frameOf c.anchor c.len v .clean 0] }) ∧
    (c.nAmb.toNat ≤ s.params.maxDist → syn ≠ 0 → exec (.crc c) s = exec (.fix c v syn)
      { s with host := { s.host with
          log := s.host.log ++ [.parityMismatch c.anchor.position syn] } })

/-- FIX applies the first flip-set of the search order that cancels the syndrome it is given and keeps the length class,
which is one of the smallest size, if one of size 1 to `MAX_DIST` exists, and reports its size; given the syndrome of its
bits, those it emits have syndrome zero. If none exists the frame is invalid with its provisional bits, dropped unless
`pass_all` (46_error_corrector R200, R202, R204; 60_exceptions R245). -/
def Obligations.FixAppliesSmallestFlipSet : Prop :=
  ∀ (c : Candidate) (v : List Bool) (syn : Syndrome) (s : State),
    c.sym.length = c.len.slots → v.length = c.len.slots →
    (∃ f, Reconciles s.params c.len v syn f ∧
      (∀ g, Reconciles s.params c.len v syn g → f.length ≤ g.length) ∧
      (∃ tried rest, searchOrder s.params.maxDist (priorityList c.sym) = tried ++ f :: rest ∧
        ∀ g ∈ tried, ¬Reconciles s.params c.len v syn g) ∧
      (syn = syndrome s.params.crcPoly v → syndrome s.params.crcPoly (flipBits v f) = 0) ∧
      exec (.fix c v syn) s = .next
        { s with outq := s.outq ++
          [frameOf c.anchor c.len (flipBits v f) .corrected (BitVec.ofNat 2 f.length)] }) ∨
    ((∀ g, ¬Reconciles s.params c.len v syn g) ∧
      exec (.fix c v syn) s = .next
        { s with
          outq := if s.cfg.passAll = true then s.outq ++ [frameOf c.anchor c.len v .invalid 0]
            else s.outq,
          host := { s.host with
            log := s.host.log ++ [.uncorrectableFrame c.anchor.position] } })

/-- The enumeration order of 46_error_corrector R203: the flip-sets of size `d` are all increasing `d`-tuples of ranks in
lexicographic order, carried over to the positions of those ranks; FIX searches those of size 1, then those of size 2, and
so on up to the budget, none twice and none left out; their number is the sum of the binomials. -/
def Obligations.FlipSetsAreInOrder : Prop :=
  (∀ (d n : Nat) (f : List Nat),
    f ∈ flipSets d (List.range n) ↔ f.length = d ∧ f.Pairwise (· < ·) ∧ ∀ x ∈ f, x < n) ∧
  (∀ d n : Nat, (flipSets d (List.range n)).Pairwise (· < ·)) ∧
  (∀ (d : Nat) (p : List Nat), flipSets d p =
    (flipSets d (List.range p.length)).map (fun r => r.map (fun k => p.getD k 0))) ∧
  (∀ p : List Nat, searchOrder 0 p = []) ∧
  (∀ (m : Nat) (p : List Nat), searchOrder (m + 1) p = searchOrder m p ++ flipSets (m + 1) p) ∧
  (∀ (m : Nat) (p : List Nat),
    (searchOrder m p).length = ((List.range m).map (fun k => p.length.choose (k + 1))).sum) ∧
  (∀ (m : Nat) (p : List Nat),
    (searchOrder m p).Pairwise (fun f g => f.length ≤ g.length))

/-- The priority list holds every frame position once: the ambiguous ones first, ascending, then the clear ones, ascending
(46_error_corrector R201). -/
def Obligations.PriorityListRanksAmbiguousFirst : Prop :=
  ∀ sym : List Sym,
    let p := priorityList sym
    let na := sym.count .ambig
    p.Perm (List.range sym.length) ∧
    (∀ x ∈ p.take na, sym[x]? = some .ambig) ∧ (p.take na).length = na ∧
    (∀ x ∈ p.drop na, sym[x]? ≠ some .ambig) ∧
    (p.take na).Pairwise (· < ·) ∧ (p.drop na).Pairwise (· < ·)

/-- EMIT appends the record, first received bit most significant and a short frame left-aligned over zeros; an invalid frame
without `pass_all` is dropped and nothing changes (46_error_corrector R207, 30_encoding R79). -/
def Obligations.EmitPlacesBits : Prop :=
  ∀ (a : Anchor) (len : FrameLen) (w : List Bool) (st : ParityStatus) (dist : BitVec 2) (s : State),
    w.length = len.slots →
    (st = .invalid ∧ s.cfg.passAll = false → exec (.emit a len w st dist) s = .next s) ∧
    (¬(st = .invalid ∧ s.cfg.passAll = false) → ∃ bits : BitVec 112,
      exec (.emit a len w st dist) s = .next { s with outq := s.outq ++
        [{ bits := bits, long := len, status := st, dist := dist, position := a.position }] } ∧
      (∀ (k : Nat) (h : k < w.length), bits.getLsbD (111 - k) = w[k]) ∧
      (∀ k, k < 112 - len.slots → bits.getLsbD k = false))

/-! ## Host operations -/

/-- RESET gives every field of the core its reset value, each written out; the initial values that CLEAR and START leave are
the same (70_reset_and_hazards R270, R271; for `fr.rate`, which stands for `fr.spu` and `fr.half`, see
notes/assumptions/12.md). That the parameters and the host's side stay, but for the logged `StreamTruncation`, is the
model's choice (notes/assumptions/22.md). -/
def Obligations.ResetRestoresEveryField : Prop :=
  ∀ s : State, exec .reset s = .next
    { State.reset with
      params := s.params,
      host := { s.host with log :=
        if s.run = .running ∧ s.fr.mode = .active then
          s.host.log ++ [.streamTruncation s.fr.anchor.position]
        else s.host.log } } ∧
    State.reset.run = .idle ∧ State.reset.pos = 0 ∧ State.reset.srcRate = 8000000 ∧
    State.reset.err = .none ∧ State.reset.outq = [] ∧ State.reset.streams = Streams.empty ∧
    readWord 0x00 State.reset = some 0x00000060 ∧ readWord 0x04 State.reset = some 0x007A1200 ∧
    readWord 0x08 State.reset = some 0 ∧ readWord 0x0C State.reset = some 0 ∧
    State.reset.ctrl = { rateSel := .msps8, resamp := false, passAll := false, threshSel := 6 } ∧
    State.reset.pd =
      { hist := #v[{ amp := 0, bad := true }, { amp := 0, bad := true }], mode := .low,
        rPos := 0, rRef := 0, rCnt := 0, rAmp := 0, start := 0, amp := 0,
        fPos := 0, fRef := 0, fCnt := 0 } ∧
    State.reset.ps = { k := 0, p0 := 0, conf := 0 } ∧
    State.reset.fr =
      { mode := .idle, anchor := { position := 0, chanRate := .msps8, confidence := 0 },
        dStart := 0, rate := .msps8, j := 0, n := .short,
        e0 := 0, e1 := 0, b0 := false, b1 := false } ∧
    State.reset.pd = PdState.initial ∧ State.reset.ps = PsState.initial ∧
    State.reset.fr = FrState.initial ∧ State.reset.cand = CandStore.initial ∧
    State.reset.streams =
      { envelope := [], pulse := [], anchor := [], slot := [], candidate := [] } ∧
    State.reset.cand = { sym := Vector.replicate 112 .zero, nAmb := 0 } ∧
    State.reset.cfg = { rateSel := .msps8, passAll := false, threshSel := 6 }

/-- In IDLE a write to `CTRL` keeps bits 0, 1, 2 and 7:4 and reads back so, a write to `SRC_RATE` keeps the word, a write to
`STATUS` does nothing; outside IDLE none of them changes anything (20_memory R53; 47_host_commands R221 for `CTRL` and
`SRC_RATE`). That WRCFG is the operation which carries a write to `STATUS`, and has the effect R53 gives that write, is the
model's DESIGN CHOICE (notes/assumptions/14.md). -/
def Obligations.RegisterWriteReadsBack : Prop :=
  ∀ (v : Word) (s : State),
    (s.run = .idle →
      (∃ c, exec (.wrcfg 0x00 v) s = .next { s with ctrl := c } ∧
        readWord 0x00 { s with ctrl := c } = some (v &&& 0x000000F7)) ∧
      exec (.wrcfg 0x04 v) s = .next { s with srcRate := v } ∧
      readWord 0x04 { s with srcRate := v } = some v) ∧
    exec (.wrcfg 0x0C v) s = .next s ∧
    (s.run ≠ .idle →
      exec (.wrcfg 0x00 v) s = .next s ∧ exec (.wrcfg 0x04 v) s = .next s)

/-- RDREG returns the register and changes nothing of the core, whatever the run state (47_host_commands R222, 20_memory
R52). That the word goes to a field of the host's side is the model's choice (notes/assumptions/6.md). -/
def Obligations.RegisterReadReturnsWord : Prop :=
  ∀ s : State,
    let got := fun w : Word => (.next { s with host := { s.host with rdData := w } } :
      Host.Outcome State Fault Refusal)
    (∃ w : Word, exec (.rdreg 0x00) s = got w ∧
      w.toNat = (if s.ctrl.rateSel = .msps10 then 1 else 0) + 2 * s.ctrl.resamp.toNat +
        4 * s.ctrl.passAll.toNat + 16 * s.ctrl.threshSel.toNat) ∧
    exec (.rdreg 0x04) s = got s.srcRate ∧
    exec (.rdreg 0x08) s = got 0 ∧
    (∃ w : Word, exec (.rdreg 0x0C) s = got w ∧
      w.toNat =
        (match s.run with | .idle => 0 | .running => 1 | .fault => 2) +
        16 * (match s.err with | .none => 0 | .rateBelowFloor => 1 | .rateUnsupported => 2) +
        256 * (if s.fr.mode = .active then 1 else 0) + 512 * (if s.outq = [] then 0 else 1))

/-- An access outside the window, or in it at no multiple of 4, is refused (20_memory R54, R55; 93_implementation_defined
section 2). The names of the two refusals, and that their operand is the offset, are the model's
(notes/assumptions/15.md). -/
def Obligations.BadAccessStops : Prop :=
  ∀ (off v : Word) (s : State),
    (16 ≤ off.toNat → exec (.wrcfg off v) s = .refused (.outsideWindow off) ∧
      exec (.rdreg off) s = .refused (.outsideWindow off)) ∧
    (off.toNat < 16 → off.toNat % 4 ≠ 0 → exec (.wrcfg off v) s = .refused (.unaligned off) ∧
      exec (.rdreg off) s = .refused (.unaligned off))

/-- A write to `CMD` performs the command of its two low bits and ignores the others (30_encoding R84). -/
def Obligations.CommandWritePerformsCommand : Prop :=
  ∀ (v : Word) (s : State),
    exec (Instr.ofBusWrite 0x08 v) s =
      if v.toNat % 4 = 0 then exec (.nop 0) s
      else if v.toNat % 4 = 1 then exec (.start 0) s
      else if v.toNat % 4 = 2 then exec (.stop 0) s
      else exec (.clear 0) s

/-- START in IDLE: below the floor `ConfigurationError` 1, else an unsupported rate without a resampler `ConfigurationError`
2, each with nothing but `run`, `err` and the log changed; else `cfg` is latched, the pipeline is initial and the core runs.
Outside IDLE START is ignored (47_host_commands R223, R226; 60_exceptions R242). -/
def Obligations.StartChecksAndLatches : Prop :=
  ∀ (u : BitVec 30) (s : State),
    let fails := fun sub : ErrCode => (.next { s with
      run := .fault, err := sub,
      host := { s.host with log := s.host.log ++ [.configurationError sub] } } :
      Host.Outcome State Fault Refusal)
    let supported := s.ctrl.resamp = true ∨
      s.srcRate.toNat = (match s.ctrl.rateSel with | .msps8 => 8000000 | .msps10 => 10000000)
    (s.run ≠ .idle → exec (.start u) s = .next s) ∧
    (s.run = .idle → s.srcRate.toNat < 8000000 → exec (.start u) s = fails .rateBelowFloor) ∧
    (s.run = .idle → 8000000 ≤ s.srcRate.toNat → ¬supported →
      exec (.start u) s = fails .rateUnsupported) ∧
    (s.run = .idle → 8000000 ≤ s.srcRate.toNat → supported → exec (.start u) s = .next
      { s with
        run := .running, err := .none, pos := 0,
        cfg := { rateSel := s.ctrl.rateSel, passAll := s.ctrl.passAll,
                 threshSel := s.ctrl.threshSel },
        pd := PdState.initial, ps := PsState.initial, fr := FrState.initial,
        cand := CandStore.initial, streams := Streams.empty })

/-- STOP ends a running stream: an open window is discarded with `StreamTruncation` and no frame, `outq` and everything else
keep their values; outside RUNNING it is ignored (47_host_commands R225, 43_framer R169). -/
def Obligations.StopDiscardsOpenWindow : Prop :=
  ∀ (u : BitVec 30) (s : State),
    (s.run ≠ .running → exec (.stop u) s = .next s) ∧
    (s.run = .running → s.fr.mode = .idle → exec (.stop u) s = .next { s with run := .idle }) ∧
    (s.run = .running → s.fr.mode = .active → exec (.stop u) s = .next
      { s with
        run := .idle, fr := { s.fr with mode := .idle },
        host := { s.host with
          log := s.host.log ++ [.streamTruncation s.fr.anchor.position] } })

/-- CLEAR puts the pipeline, `run`, `err` and `outq` at their reset values from every run state and keeps `CTRL`, `SRC_RATE`
and `cfg`; all of `STATUS` reads 0 (47_host_commands R227). -/
def Obligations.ClearEmptiesPipeline : Prop :=
  ∀ (u : BitVec 30) (s : State), ∃ t, exec (.clear u) s = .next t ∧
    t = { s with
      run := .idle, err := .none, pos := 0, pd := PdState.initial, ps := PsState.initial,
      fr := FrState.initial, cand := CandStore.initial, streams := Streams.empty, outq := [],
      host := { s.host with log :=
        if s.run = .running ∧ s.fr.mode = .active then
          s.host.log ++ [.streamTruncation s.fr.anchor.position]
        else s.host.log } } ∧
    readWord 0x0C t = some 0

/-- NOP, operation id 0x16, is a write to `CMD` with the two low bits 0, and changes nothing, whatever the ignored bits of
its write data (47_host_commands R229). That the id is the first byte of an encoding is the model's DESIGN CHOICE
(notes/assumptions/2.md: the hardware has no such field, 30_encoding R90), as is that a write to `CMD` is sorted into its
command, ignored bits and all, when it is decoded (notes/assumptions/14.md). -/
def Obligations.NopChangesNothing : Prop :=
  ∀ s : State,
    (∀ u : BitVec 30, exec (.nop u) s = .next s ∧ (encode (.nop u)).head? = some 0x16) ∧
    (∀ v : Word, v.extractLsb' 0 2 = 0 →
      (∃ u, Instr.ofBusWrite 0x08 v = .nop u) ∧ exec (Instr.ofBusWrite 0x08 v) s = .next s)

/-- From reset START alone gives a running core with the defaults: 8,000,000 samples per second, 6 dB, invalid frames
suppressed (70_reset_and_hazards R272). -/
def Obligations.StartFromResetRuns : Prop :=
  ∃ t, exec (.start 0) State.reset = .next t ∧ t.run = .running ∧
    t.cfg = { rateSel := .msps8, passAll := false, threshSel := 6 } ∧ t.pos = 0 ∧
    readWord 0x0C t = some 1

/-- The three levels of reset compared, row by row: all three leave the same initial pipeline and no error; RESET gives
`CTRL`, `SRC_RATE` and `cfg` their reset values, CLEAR keeps them, START keeps the first two and copies `cfg`; START keeps
`outq`, the others empty it (70_reset_and_hazards R271). -/
def Obligations.ThreeResetsAgree : Prop :=
  ∀ (u : BitVec 30) (s : State), s.run = .idle → check s = .none →
    ∃ a b c, exec .reset s = .next a ∧ exec (.clear u) s = .next b ∧
      exec (.start u) s = .next c ∧
      (∀ t ∈ [a, b, c], t.pos = 0 ∧ t.pd = PdState.initial ∧ t.ps = PsState.initial ∧
        t.fr = FrState.initial ∧ t.cand = CandStore.initial ∧ t.err = .none) ∧
      a.run = .idle ∧ b.run = .idle ∧ c.run = .running ∧
      a.outq = [] ∧ b.outq = [] ∧ c.outq = s.outq ∧
      readWord 0x00 a = some 0x00000060 ∧ a.srcRate = 8000000 ∧
      a.cfg = { rateSel := .msps8, passAll := false, threshSel := 6 } ∧
      b.ctrl = s.ctrl ∧ b.srcRate = s.srcRate ∧ b.cfg = s.cfg ∧
      c.ctrl = s.ctrl ∧ c.srcRate = s.srcRate ∧
      c.cfg = { rateSel := s.ctrl.rateSel, passAll := s.ctrl.passAll,
                threshSel := s.ctrl.threshSel }

/-! ## Ports -/

/-- PUSH in RUNNING is one tick: it always completes, `pos` advances, `pd.hist` takes in the envelope sample, the internal
streams are empty again, at most one frame is appended, and the registers, `cfg` and `run` are unchanged (47_host_commands
R224, 20_memory R58, 41_pulse_detector R111). -/
def Obligations.PushIsOneTick : Prop :=
  ∀ (smp : Sample) (s : State), s.run = .running → s.streams = Streams.empty →
    ∃ t new evs, exec (.push smp) s = .next t ∧ t.pos = s.pos + 1 ∧
      t.pd.hist = #v[magnitude smp, s.pd.hist[0]] ∧ t.streams = Streams.empty ∧
      t.outq = s.outq ++ new ∧ new.length ≤ 1 ∧ t.run = .running ∧ t.ctrl = s.ctrl ∧
      t.srcRate = s.srcRate ∧ t.err = s.err ∧ t.cfg = s.cfg ∧ t.params = s.params ∧
      t.host = { s.host with log := s.host.log ++ evs }

/-- PUSH in RUNNING performs the stage operations in pipeline order, each on what the one before it emitted: MAG and EDGE,
SYNC if a pulse was emitted, FRAME.OPEN if an Anchor was, FRAME.ACC, CRC if a candidate was; then the history takes in the
envelope sample and the position advances (20_memory R58, 47_host_commands R224). PPM, FRAME.LEN, FIX and EMIT act inside
FRAME.ACC and CRC, as the statements about those say. -/
def Obligations.PushComposesStages : Prop :=
  ∀ (smp : Sample) (s : State), s.run = .running → s.streams = Streams.empty →
    ∃ e s₁ s₂ s₃ s₄ s₅,
      exec (.mag smp) s = .next { s with streams := { s.streams with envelope := [e] } } ∧
      exec (.edge e) s = .next s₁ ∧
      ((s₁.streams.pulse = [] ∧ s₂ = s₁) ∨ ∃ p, s₁.streams.pulse = [p] ∧
        exec (.sync p) { s₁ with streams := { s₁.streams with pulse := [] } } = .next s₂) ∧
      ((s₂.streams.anchor = [] ∧ s₃ = s₂) ∨ ∃ a, s₂.streams.anchor = [a] ∧
        exec (.frameOpen a) { s₂ with streams := { s₂.streams with anchor := [] } } = .next s₃) ∧
      exec (.frameAcc e) s₃ = .next s₄ ∧
      ((s₄.streams.candidate = [] ∧ s₅ = s₄) ∨ ∃ c, s₄.streams.candidate = [c] ∧
        exec (.crc c) { s₄ with streams := { s₄.streams with candidate := [] } } = .next s₅) ∧
      exec (.push smp) s = .next
        { s₅ with pos := s₅.pos + 1, pd := { s₅.pd with hist := #v[e, s₅.pd.hist[0]] } }

/-- With no edge in sight a tick does nothing but advance: from LOW with a bad comparison sample and no window open, PUSH
changes only `pos` and `pd.hist` (41_pulse_detector R112, R118; 43_framer R164). -/
def Obligations.PushWithoutComparisonSample : Prop :=
  ∀ (smp : Sample) (s : State), s.run = .running → s.streams = Streams.empty →
    s.pd.mode = .low → s.pd.hist[1].bad = true → s.fr.mode = .idle →
    exec (.push smp) s = .next
      { s with
        pos := s.pos + 1,
        pd := { s.pd with hist := #v[magnitude smp, s.pd.hist[0]] } }

/-- The start-up blind spot: the first `LAG` samples after START find no edge (70_reset_and_hazards R280). -/
def Obligations.StartUpBlindSpot : Prop :=
  ∀ (a b : Sample) (s : State), s.run = .idle → check s = .none →
    ∃ t, execAll [.start 0, .push a, .push b] s = .next t ∧ t.pos = 2 ∧ t.pd.mode = .low ∧
      t.pd.hist = #v[magnitude b, magnitude a] ∧ t.ps = PsState.initial ∧
      t.fr = FrState.initial ∧ t.outq = s.outq ∧ t.host = s.host

/-- PUSH outside RUNNING and POP with an empty queue are not enabled and are refused as a step (47_host_commands R224, R228;
93_implementation_defined section 2). -/
def Obligations.PortsNotReadyRefuse : Prop :=
  ∀ s : State,
    (∀ smp, s.run ≠ .running → exec (.push smp) s = .refused .sampleNotReady) ∧
    (s.outq = [] → exec .pop s = .refused .frameNotValid)

/-- POP takes the head of `outq` in every run state and nothing else of the core changes; `f_avail`, bit 9 of STATUS, then
reads whether a record is left (47_host_commands R228). That the record goes to the host's side is the model's choice
(notes/assumptions/6.md). -/
def Obligations.PopTakesHead : Prop :=
  ∀ (f : DecodedFrame) (l : List DecodedFrame) (s : State), s.outq = f :: l →
    let t := { s with outq := l, host := { s.host with taken := s.host.taken ++ [f] } }
    fRecord s = some f ∧ fValid s = true ∧ exec .pop s = .next t ∧
    fAvail t = decide (l ≠ []) ∧ (statusWord t).getLsbD 9 = decide (l ≠ []) ∧ fRecord t = l.head?
end

