-- ==== Sys2Proof/Laws/State.lean ====
section
/-! SUPPORT. What each update of the state leaves in each field: one lemma per field per update, each true by `rfl`. -/

namespace Sys2Proof.Machine

@[simp] theorem setPd_run (x : PdState) (s : State) : (setPd x s).run = s.run := rfl
@[simp] theorem setPd_pos (x : PdState) (s : State) : (setPd x s).pos = s.pos := rfl
@[simp] theorem setPd_ctrl (x : PdState) (s : State) : (setPd x s).ctrl = s.ctrl := rfl
@[simp] theorem setPd_srcRate (x : PdState) (s : State) : (setPd x s).srcRate = s.srcRate := rfl
@[simp] theorem setPd_err (x : PdState) (s : State) : (setPd x s).err = s.err := rfl
@[simp] theorem setPd_cfg (x : PdState) (s : State) : (setPd x s).cfg = s.cfg := rfl
@[simp] theorem setPd_pd (x : PdState) (s : State) : (setPd x s).pd = x := rfl
@[simp] theorem setPd_ps (x : PdState) (s : State) : (setPd x s).ps = s.ps := rfl
@[simp] theorem setPd_fr (x : PdState) (s : State) : (setPd x s).fr = s.fr := rfl
@[simp] theorem setPd_cand (x : PdState) (s : State) : (setPd x s).cand = s.cand := rfl
@[simp] theorem setPd_streams (x : PdState) (s : State) : (setPd x s).streams = s.streams := rfl
@[simp] theorem setPd_outq (x : PdState) (s : State) : (setPd x s).outq = s.outq := rfl
@[simp] theorem setPd_params (x : PdState) (s : State) : (setPd x s).params = s.params := rfl
@[simp] theorem setPd_host (x : PdState) (s : State) : (setPd x s).host = s.host := rfl

@[simp] theorem setPs_run (x : PsState) (s : State) : (setPs x s).run = s.run := rfl
@[simp] theorem setPs_pos (x : PsState) (s : State) : (setPs x s).pos = s.pos := rfl
@[simp] theorem setPs_ctrl (x : PsState) (s : State) : (setPs x s).ctrl = s.ctrl := rfl
@[simp] theorem setPs_srcRate (x : PsState) (s : State) : (setPs x s).srcRate = s.srcRate := rfl
@[simp] theorem setPs_err (x : PsState) (s : State) : (setPs x s).err = s.err := rfl
@[simp] theorem setPs_cfg (x : PsState) (s : State) : (setPs x s).cfg = s.cfg := rfl
@[simp] theorem setPs_pd (x : PsState) (s : State) : (setPs x s).pd = s.pd := rfl
@[simp] theorem setPs_ps (x : PsState) (s : State) : (setPs x s).ps = x := rfl
@[simp] theorem setPs_fr (x : PsState) (s : State) : (setPs x s).fr = s.fr := rfl
@[simp] theorem setPs_cand (x : PsState) (s : State) : (setPs x s).cand = s.cand := rfl
@[simp] theorem setPs_streams (x : PsState) (s : State) : (setPs x s).streams = s.streams := rfl
@[simp] theorem setPs_outq (x : PsState) (s : State) : (setPs x s).outq = s.outq := rfl
@[simp] theorem setPs_params (x : PsState) (s : State) : (setPs x s).params = s.params := rfl
@[simp] theorem setPs_host (x : PsState) (s : State) : (setPs x s).host = s.host := rfl

@[simp] theorem setFr_run (x : FrState) (s : State) : (setFr x s).run = s.run := rfl
@[simp] theorem setFr_pos (x : FrState) (s : State) : (setFr x s).pos = s.pos := rfl
@[simp] theorem setFr_ctrl (x : FrState) (s : State) : (setFr x s).ctrl = s.ctrl := rfl
@[simp] theorem setFr_srcRate (x : FrState) (s : State) : (setFr x s).srcRate = s.srcRate := rfl
@[simp] theorem setFr_err (x : FrState) (s : State) : (setFr x s).err = s.err := rfl
@[simp] theorem setFr_cfg (x : FrState) (s : State) : (setFr x s).cfg = s.cfg := rfl
@[simp] theorem setFr_pd (x : FrState) (s : State) : (setFr x s).pd = s.pd := rfl
@[simp] theorem setFr_ps (x : FrState) (s : State) : (setFr x s).ps = s.ps := rfl
@[simp] theorem setFr_fr (x : FrState) (s : State) : (setFr x s).fr = x := rfl
@[simp] theorem setFr_cand (x : FrState) (s : State) : (setFr x s).cand = s.cand := rfl
@[simp] theorem setFr_streams (x : FrState) (s : State) : (setFr x s).streams = s.streams := rfl
@[simp] theorem setFr_outq (x : FrState) (s : State) : (setFr x s).outq = s.outq := rfl
@[simp] theorem setFr_params (x : FrState) (s : State) : (setFr x s).params = s.params := rfl
@[simp] theorem setFr_host (x : FrState) (s : State) : (setFr x s).host = s.host := rfl

@[simp] theorem setCand_run (x : CandStore) (s : State) : (setCand x s).run = s.run := rfl
@[simp] theorem setCand_pos (x : CandStore) (s : State) : (setCand x s).pos = s.pos := rfl
@[simp] theorem setCand_ctrl (x : CandStore) (s : State) : (setCand x s).ctrl = s.ctrl := rfl
@[simp] theorem setCand_srcRate (x : CandStore) (s : State) : (setCand x s).srcRate = s.srcRate :=
    rfl
@[simp] theorem setCand_err (x : CandStore) (s : State) : (setCand x s).err = s.err := rfl
@[simp] theorem setCand_cfg (x : CandStore) (s : State) : (setCand x s).cfg = s.cfg := rfl
@[simp] theorem setCand_pd (x : CandStore) (s : State) : (setCand x s).pd = s.pd := rfl
@[simp] theorem setCand_ps (x : CandStore) (s : State) : (setCand x s).ps = s.ps := rfl
@[simp] theorem setCand_fr (x : CandStore) (s : State) : (setCand x s).fr = s.fr := rfl
@[simp] theorem setCand_cand (x : CandStore) (s : State) : (setCand x s).cand = x := rfl
@[simp] theorem setCand_streams (x : CandStore) (s : State) : (setCand x s).streams = s.streams :=
    rfl
@[simp] theorem setCand_outq (x : CandStore) (s : State) : (setCand x s).outq = s.outq := rfl
@[simp] theorem setCand_params (x : CandStore) (s : State) : (setCand x s).params = s.params := rfl
@[simp] theorem setCand_host (x : CandStore) (s : State) : (setCand x s).host = s.host := rfl

@[simp] theorem setStreams_run (x : Streams) (s : State) : (setStreams x s).run = s.run := rfl
@[simp] theorem setStreams_pos (x : Streams) (s : State) : (setStreams x s).pos = s.pos := rfl
@[simp] theorem setStreams_ctrl (x : Streams) (s : State) : (setStreams x s).ctrl = s.ctrl := rfl
@[simp] theorem setStreams_srcRate (x : Streams) (s : State) : (setStreams x s).srcRate = s.srcRate :=
    rfl
@[simp] theorem setStreams_err (x : Streams) (s : State) : (setStreams x s).err = s.err := rfl
@[simp] theorem setStreams_cfg (x : Streams) (s : State) : (setStreams x s).cfg = s.cfg := rfl
@[simp] theorem setStreams_pd (x : Streams) (s : State) : (setStreams x s).pd = s.pd := rfl
@[simp] theorem setStreams_ps (x : Streams) (s : State) : (setStreams x s).ps = s.ps := rfl
@[simp] theorem setStreams_fr (x : Streams) (s : State) : (setStreams x s).fr = s.fr := rfl
@[simp] theorem setStreams_cand (x : Streams) (s : State) : (setStreams x s).cand = s.cand := rfl
@[simp] theorem setStreams_streams (x : Streams) (s : State) : (setStreams x s).streams = x := rfl
@[simp] theorem setStreams_outq (x : Streams) (s : State) : (setStreams x s).outq = s.outq := rfl
@[simp] theorem setStreams_params (x : Streams) (s : State) : (setStreams x s).params = s.params :=
    rfl
@[simp] theorem setStreams_host (x : Streams) (s : State) : (setStreams x s).host = s.host := rfl

@[simp] theorem setHost_run (x : HostSide) (s : State) : (setHost x s).run = s.run := rfl
@[simp] theorem setHost_pos (x : HostSide) (s : State) : (setHost x s).pos = s.pos := rfl
@[simp] theorem setHost_ctrl (x : HostSide) (s : State) : (setHost x s).ctrl = s.ctrl := rfl
@[simp] theorem setHost_srcRate (x : HostSide) (s : State) : (setHost x s).srcRate = s.srcRate :=
    rfl
@[simp] theorem setHost_err (x : HostSide) (s : State) : (setHost x s).err = s.err := rfl
@[simp] theorem setHost_cfg (x : HostSide) (s : State) : (setHost x s).cfg = s.cfg := rfl
@[simp] theorem setHost_pd (x : HostSide) (s : State) : (setHost x s).pd = s.pd := rfl
@[simp] theorem setHost_ps (x : HostSide) (s : State) : (setHost x s).ps = s.ps := rfl
@[simp] theorem setHost_fr (x : HostSide) (s : State) : (setHost x s).fr = s.fr := rfl
@[simp] theorem setHost_cand (x : HostSide) (s : State) : (setHost x s).cand = s.cand := rfl
@[simp] theorem setHost_streams (x : HostSide) (s : State) : (setHost x s).streams = s.streams :=
    rfl
@[simp] theorem setHost_outq (x : HostSide) (s : State) : (setHost x s).outq = s.outq := rfl
@[simp] theorem setHost_params (x : HostSide) (s : State) : (setHost x s).params = s.params := rfl
@[simp] theorem setHost_host (x : HostSide) (s : State) : (setHost x s).host = x := rfl

@[simp] theorem setOps_run (x : List Byte) (s : State) : (setOps x s).run = s.run := rfl
@[simp] theorem setOps_pos (x : List Byte) (s : State) : (setOps x s).pos = s.pos := rfl
@[simp] theorem setOps_ctrl (x : List Byte) (s : State) : (setOps x s).ctrl = s.ctrl := rfl
@[simp] theorem setOps_srcRate (x : List Byte) (s : State) : (setOps x s).srcRate = s.srcRate := rfl
@[simp] theorem setOps_err (x : List Byte) (s : State) : (setOps x s).err = s.err := rfl
@[simp] theorem setOps_cfg (x : List Byte) (s : State) : (setOps x s).cfg = s.cfg := rfl
@[simp] theorem setOps_pd (x : List Byte) (s : State) : (setOps x s).pd = s.pd := rfl
@[simp] theorem setOps_ps (x : List Byte) (s : State) : (setOps x s).ps = s.ps := rfl
@[simp] theorem setOps_fr (x : List Byte) (s : State) : (setOps x s).fr = s.fr := rfl
@[simp] theorem setOps_cand (x : List Byte) (s : State) : (setOps x s).cand = s.cand := rfl
@[simp] theorem setOps_streams (x : List Byte) (s : State) : (setOps x s).streams = s.streams := rfl
@[simp] theorem setOps_outq (x : List Byte) (s : State) : (setOps x s).outq = s.outq := rfl
@[simp] theorem setOps_params (x : List Byte) (s : State) : (setOps x s).params = s.params := rfl
@[simp] theorem setOps_host (x : List Byte) (s : State) : (setOps x s).host = { s.host with ops := x } :=
    rfl

@[simp] theorem setBench_run (x : List Byte) (s : State) : (setBench x s).run = s.run := rfl
@[simp] theorem setBench_pos (x : List Byte) (s : State) : (setBench x s).pos = s.pos := rfl
@[simp] theorem setBench_ctrl (x : List Byte) (s : State) : (setBench x s).ctrl = s.ctrl := rfl
@[simp] theorem setBench_srcRate (x : List Byte) (s : State) : (setBench x s).srcRate = s.srcRate :=
    rfl
@[simp] theorem setBench_err (x : List Byte) (s : State) : (setBench x s).err = s.err := rfl
@[simp] theorem setBench_cfg (x : List Byte) (s : State) : (setBench x s).cfg = s.cfg := rfl
@[simp] theorem setBench_pd (x : List Byte) (s : State) : (setBench x s).pd = s.pd := rfl
@[simp] theorem setBench_ps (x : List Byte) (s : State) : (setBench x s).ps = s.ps := rfl
@[simp] theorem setBench_fr (x : List Byte) (s : State) : (setBench x s).fr = s.fr := rfl
@[simp] theorem setBench_cand (x : List Byte) (s : State) : (setBench x s).cand = s.cand := rfl
@[simp] theorem setBench_streams (x : List Byte) (s : State) : (setBench x s).streams = s.streams :=
    rfl
@[simp] theorem setBench_outq (x : List Byte) (s : State) : (setBench x s).outq = s.outq := rfl
@[simp] theorem setBench_params (x : List Byte) (s : State) : (setBench x s).params = s.params :=
    rfl
@[simp] theorem setBench_host (x : List Byte) (s : State) : (setBench x s).host =
    { s.host with bench := x } := rfl

@[simp] theorem logEvent_run (x : Event) (s : State) : (logEvent x s).run = s.run := rfl
@[simp] theorem logEvent_pos (x : Event) (s : State) : (logEvent x s).pos = s.pos := rfl
@[simp] theorem logEvent_ctrl (x : Event) (s : State) : (logEvent x s).ctrl = s.ctrl := rfl
@[simp] theorem logEvent_srcRate (x : Event) (s : State) : (logEvent x s).srcRate = s.srcRate := rfl
@[simp] theorem logEvent_err (x : Event) (s : State) : (logEvent x s).err = s.err := rfl
@[simp] theorem logEvent_cfg (x : Event) (s : State) : (logEvent x s).cfg = s.cfg := rfl
@[simp] theorem logEvent_pd (x : Event) (s : State) : (logEvent x s).pd = s.pd := rfl
@[simp] theorem logEvent_ps (x : Event) (s : State) : (logEvent x s).ps = s.ps := rfl
@[simp] theorem logEvent_fr (x : Event) (s : State) : (logEvent x s).fr = s.fr := rfl
@[simp] theorem logEvent_cand (x : Event) (s : State) : (logEvent x s).cand = s.cand := rfl
@[simp] theorem logEvent_streams (x : Event) (s : State) : (logEvent x s).streams = s.streams := rfl
@[simp] theorem logEvent_outq (x : Event) (s : State) : (logEvent x s).outq = s.outq := rfl
@[simp] theorem logEvent_params (x : Event) (s : State) : (logEvent x s).params = s.params := rfl
@[simp] theorem logEvent_host (x : Event) (s : State) : (logEvent x s).host = { s.host with log := s.host.log ++ [x] } :=
    rfl

@[simp] theorem closeWindow_run (s : State) : (closeWindow s).run = s.run := rfl
@[simp] theorem closeWindow_pos (s : State) : (closeWindow s).pos = s.pos := rfl
@[simp] theorem closeWindow_ctrl (s : State) : (closeWindow s).ctrl = s.ctrl := rfl
@[simp] theorem closeWindow_srcRate (s : State) : (closeWindow s).srcRate = s.srcRate := rfl
@[simp] theorem closeWindow_err (s : State) : (closeWindow s).err = s.err := rfl
@[simp] theorem closeWindow_cfg (s : State) : (closeWindow s).cfg = s.cfg := rfl
@[simp] theorem closeWindow_pd (s : State) : (closeWindow s).pd = s.pd := rfl
@[simp] theorem closeWindow_ps (s : State) : (closeWindow s).ps = s.ps := rfl
@[simp] theorem closeWindow_fr (s : State) : (closeWindow s).fr = { s.fr with mode := .idle } := rfl
@[simp] theorem closeWindow_cand (s : State) : (closeWindow s).cand = s.cand := rfl
@[simp] theorem closeWindow_streams (s : State) : (closeWindow s).streams = s.streams := rfl
@[simp] theorem closeWindow_outq (s : State) : (closeWindow s).outq = s.outq := rfl
@[simp] theorem closeWindow_params (s : State) : (closeWindow s).params = s.params := rfl
@[simp] theorem closeWindow_host (s : State) : (closeWindow s).host = s.host := rfl

@[simp] theorem leaveFault_run (s : State) : (leaveFault s).run = .idle := rfl
@[simp] theorem leaveFault_pos (s : State) : (leaveFault s).pos = s.pos := rfl
@[simp] theorem leaveFault_ctrl (s : State) : (leaveFault s).ctrl = s.ctrl := rfl
@[simp] theorem leaveFault_srcRate (s : State) : (leaveFault s).srcRate = s.srcRate := rfl
@[simp] theorem leaveFault_err (s : State) : (leaveFault s).err = .none := rfl
@[simp] theorem leaveFault_cfg (s : State) : (leaveFault s).cfg = s.cfg := rfl
@[simp] theorem leaveFault_pd (s : State) : (leaveFault s).pd = s.pd := rfl
@[simp] theorem leaveFault_ps (s : State) : (leaveFault s).ps = s.ps := rfl
@[simp] theorem leaveFault_fr (s : State) : (leaveFault s).fr = s.fr := rfl
@[simp] theorem leaveFault_cand (s : State) : (leaveFault s).cand = s.cand := rfl
@[simp] theorem leaveFault_streams (s : State) : (leaveFault s).streams = s.streams := rfl
@[simp] theorem leaveFault_outq (s : State) : (leaveFault s).outq = s.outq := rfl
@[simp] theorem leaveFault_params (s : State) : (leaveFault s).params = s.params := rfl
@[simp] theorem leaveFault_host (s : State) : (leaveFault s).host = s.host := rfl

@[simp] theorem initPipeline_run (s : State) : (initPipeline s).run = s.run := rfl
@[simp] theorem initPipeline_pos (s : State) : (initPipeline s).pos = 0 := rfl
@[simp] theorem initPipeline_ctrl (s : State) : (initPipeline s).ctrl = s.ctrl := rfl
@[simp] theorem initPipeline_srcRate (s : State) : (initPipeline s).srcRate = s.srcRate := rfl
@[simp] theorem initPipeline_err (s : State) : (initPipeline s).err = s.err := rfl
@[simp] theorem initPipeline_cfg (s : State) : (initPipeline s).cfg = s.cfg := rfl
@[simp] theorem initPipeline_pd (s : State) : (initPipeline s).pd = PdState.initial := rfl
@[simp] theorem initPipeline_ps (s : State) : (initPipeline s).ps = PsState.initial := rfl
@[simp] theorem initPipeline_fr (s : State) : (initPipeline s).fr = FrState.initial := rfl
@[simp] theorem initPipeline_cand (s : State) : (initPipeline s).cand = CandStore.initial := rfl
@[simp] theorem initPipeline_streams (s : State) : (initPipeline s).streams = Streams.empty := rfl
@[simp] theorem initPipeline_outq (s : State) : (initPipeline s).outq = s.outq := rfl
@[simp] theorem initPipeline_params (s : State) : (initPipeline s).params = s.params := rfl
@[simp] theorem initPipeline_host (s : State) : (initPipeline s).host = s.host := rfl

@[simp] theorem emitEnvelope_run (x : EnvSample) (s : State) : (emitEnvelope x s).run = s.run := rfl
@[simp] theorem emitEnvelope_pos (x : EnvSample) (s : State) : (emitEnvelope x s).pos = s.pos := rfl
@[simp] theorem emitEnvelope_ctrl (x : EnvSample) (s : State) : (emitEnvelope x s).ctrl = s.ctrl :=
    rfl
@[simp] theorem emitEnvelope_srcRate (x : EnvSample) (s : State) : (emitEnvelope x s).srcRate = s.srcRate :=
    rfl
@[simp] theorem emitEnvelope_err (x : EnvSample) (s : State) : (emitEnvelope x s).err = s.err := rfl
@[simp] theorem emitEnvelope_cfg (x : EnvSample) (s : State) : (emitEnvelope x s).cfg = s.cfg := rfl
@[simp] theorem emitEnvelope_pd (x : EnvSample) (s : State) : (emitEnvelope x s).pd = s.pd := rfl
@[simp] theorem emitEnvelope_ps (x : EnvSample) (s : State) : (emitEnvelope x s).ps = s.ps := rfl
@[simp] theorem emitEnvelope_fr (x : EnvSample) (s : State) : (emitEnvelope x s).fr = s.fr := rfl
@[simp] theorem emitEnvelope_cand (x : EnvSample) (s : State) : (emitEnvelope x s).cand = s.cand :=
    rfl
@[simp] theorem emitEnvelope_streams (x : EnvSample) (s : State) : (emitEnvelope x s).streams = { s.streams with envelope := s.streams.envelope ++ [x] } :=
    rfl
@[simp] theorem emitEnvelope_outq (x : EnvSample) (s : State) : (emitEnvelope x s).outq = s.outq :=
    rfl
@[simp] theorem emitEnvelope_params (x : EnvSample) (s : State) : (emitEnvelope x s).params = s.params :=
    rfl
@[simp] theorem emitEnvelope_host (x : EnvSample) (s : State) : (emitEnvelope x s).host = s.host :=
    rfl

@[simp] theorem emitPulse_run (x : Pulse) (s : State) : (emitPulse x s).run = s.run := rfl
@[simp] theorem emitPulse_pos (x : Pulse) (s : State) : (emitPulse x s).pos = s.pos := rfl
@[simp] theorem emitPulse_ctrl (x : Pulse) (s : State) : (emitPulse x s).ctrl = s.ctrl := rfl
@[simp] theorem emitPulse_srcRate (x : Pulse) (s : State) : (emitPulse x s).srcRate = s.srcRate :=
    rfl
@[simp] theorem emitPulse_err (x : Pulse) (s : State) : (emitPulse x s).err = s.err := rfl
@[simp] theorem emitPulse_cfg (x : Pulse) (s : State) : (emitPulse x s).cfg = s.cfg := rfl
@[simp] theorem emitPulse_pd (x : Pulse) (s : State) : (emitPulse x s).pd = s.pd := rfl
@[simp] theorem emitPulse_ps (x : Pulse) (s : State) : (emitPulse x s).ps = s.ps := rfl
@[simp] theorem emitPulse_fr (x : Pulse) (s : State) : (emitPulse x s).fr = s.fr := rfl
@[simp] theorem emitPulse_cand (x : Pulse) (s : State) : (emitPulse x s).cand = s.cand := rfl
@[simp] theorem emitPulse_streams (x : Pulse) (s : State) : (emitPulse x s).streams = { s.streams with pulse := s.streams.pulse ++ [x] } :=
    rfl
@[simp] theorem emitPulse_outq (x : Pulse) (s : State) : (emitPulse x s).outq = s.outq := rfl
@[simp] theorem emitPulse_params (x : Pulse) (s : State) : (emitPulse x s).params = s.params := rfl
@[simp] theorem emitPulse_host (x : Pulse) (s : State) : (emitPulse x s).host = s.host := rfl

@[simp] theorem emitAnchor_run (x : Anchor) (s : State) : (emitAnchor x s).run = s.run := rfl
@[simp] theorem emitAnchor_pos (x : Anchor) (s : State) : (emitAnchor x s).pos = s.pos := rfl
@[simp] theorem emitAnchor_ctrl (x : Anchor) (s : State) : (emitAnchor x s).ctrl = s.ctrl := rfl
@[simp] theorem emitAnchor_srcRate (x : Anchor) (s : State) : (emitAnchor x s).srcRate = s.srcRate :=
    rfl
@[simp] theorem emitAnchor_err (x : Anchor) (s : State) : (emitAnchor x s).err = s.err := rfl
@[simp] theorem emitAnchor_cfg (x : Anchor) (s : State) : (emitAnchor x s).cfg = s.cfg := rfl
@[simp] theorem emitAnchor_pd (x : Anchor) (s : State) : (emitAnchor x s).pd = s.pd := rfl
@[simp] theorem emitAnchor_ps (x : Anchor) (s : State) : (emitAnchor x s).ps = s.ps := rfl
@[simp] theorem emitAnchor_fr (x : Anchor) (s : State) : (emitAnchor x s).fr = s.fr := rfl
@[simp] theorem emitAnchor_cand (x : Anchor) (s : State) : (emitAnchor x s).cand = s.cand := rfl
@[simp] theorem emitAnchor_streams (x : Anchor) (s : State) : (emitAnchor x s).streams = { s.streams with anchor := s.streams.anchor ++ [x] } :=
    rfl
@[simp] theorem emitAnchor_outq (x : Anchor) (s : State) : (emitAnchor x s).outq = s.outq := rfl
@[simp] theorem emitAnchor_params (x : Anchor) (s : State) : (emitAnchor x s).params = s.params :=
    rfl
@[simp] theorem emitAnchor_host (x : Anchor) (s : State) : (emitAnchor x s).host = s.host := rfl

@[simp] theorem emitSlot_run (x : SlotObs) (s : State) : (emitSlot x s).run = s.run := rfl
@[simp] theorem emitSlot_pos (x : SlotObs) (s : State) : (emitSlot x s).pos = s.pos := rfl
@[simp] theorem emitSlot_ctrl (x : SlotObs) (s : State) : (emitSlot x s).ctrl = s.ctrl := rfl
@[simp] theorem emitSlot_srcRate (x : SlotObs) (s : State) : (emitSlot x s).srcRate = s.srcRate :=
    rfl
@[simp] theorem emitSlot_err (x : SlotObs) (s : State) : (emitSlot x s).err = s.err := rfl
@[simp] theorem emitSlot_cfg (x : SlotObs) (s : State) : (emitSlot x s).cfg = s.cfg := rfl
@[simp] theorem emitSlot_pd (x : SlotObs) (s : State) : (emitSlot x s).pd = s.pd := rfl
@[simp] theorem emitSlot_ps (x : SlotObs) (s : State) : (emitSlot x s).ps = s.ps := rfl
@[simp] theorem emitSlot_fr (x : SlotObs) (s : State) : (emitSlot x s).fr = s.fr := rfl
@[simp] theorem emitSlot_cand (x : SlotObs) (s : State) : (emitSlot x s).cand = s.cand := rfl
@[simp] theorem emitSlot_streams (x : SlotObs) (s : State) : (emitSlot x s).streams = { s.streams with slot := s.streams.slot ++ [x] } :=
    rfl
@[simp] theorem emitSlot_outq (x : SlotObs) (s : State) : (emitSlot x s).outq = s.outq := rfl
@[simp] theorem emitSlot_params (x : SlotObs) (s : State) : (emitSlot x s).params = s.params := rfl
@[simp] theorem emitSlot_host (x : SlotObs) (s : State) : (emitSlot x s).host = s.host := rfl

@[simp] theorem emitCandidate_run (x : Candidate) (s : State) : (emitCandidate x s).run = s.run :=
    rfl
@[simp] theorem emitCandidate_pos (x : Candidate) (s : State) : (emitCandidate x s).pos = s.pos :=
    rfl
@[simp] theorem emitCandidate_ctrl (x : Candidate) (s : State) : (emitCandidate x s).ctrl = s.ctrl :=
    rfl
@[simp] theorem emitCandidate_srcRate (x : Candidate) (s : State) : (emitCandidate x s).srcRate = s.srcRate :=
    rfl
@[simp] theorem emitCandidate_err (x : Candidate) (s : State) : (emitCandidate x s).err = s.err :=
    rfl
@[simp] theorem emitCandidate_cfg (x : Candidate) (s : State) : (emitCandidate x s).cfg = s.cfg :=
    rfl
@[simp] theorem emitCandidate_pd (x : Candidate) (s : State) : (emitCandidate x s).pd = s.pd := rfl
@[simp] theorem emitCandidate_ps (x : Candidate) (s : State) : (emitCandidate x s).ps = s.ps := rfl
@[simp] theorem emitCandidate_fr (x : Candidate) (s : State) : (emitCandidate x s).fr = s.fr := rfl
@[simp] theorem emitCandidate_cand (x : Candidate) (s : State) : (emitCandidate x s).cand = s.cand :=
    rfl
@[simp] theorem emitCandidate_streams (x : Candidate) (s : State) : (emitCandidate x s).streams = { s.streams with candidate := s.streams.candidate ++ [x] } :=
    rfl
@[simp] theorem emitCandidate_outq (x : Candidate) (s : State) : (emitCandidate x s).outq = s.outq :=
    rfl
@[simp] theorem emitCandidate_params (x : Candidate) (s : State) : (emitCandidate x s).params = s.params :=
    rfl
@[simp] theorem emitCandidate_host (x : Candidate) (s : State) : (emitCandidate x s).host = s.host :=
    rfl

@[simp] theorem appendOut_run (x : DecodedFrame) (s : State) : (appendOut x s).run = s.run := rfl
@[simp] theorem appendOut_pos (x : DecodedFrame) (s : State) : (appendOut x s).pos = s.pos := rfl
@[simp] theorem appendOut_ctrl (x : DecodedFrame) (s : State) : (appendOut x s).ctrl = s.ctrl := rfl
@[simp] theorem appendOut_srcRate (x : DecodedFrame) (s : State) : (appendOut x s).srcRate = s.srcRate :=
    rfl
@[simp] theorem appendOut_err (x : DecodedFrame) (s : State) : (appendOut x s).err = s.err := rfl
@[simp] theorem appendOut_cfg (x : DecodedFrame) (s : State) : (appendOut x s).cfg = s.cfg := rfl
@[simp] theorem appendOut_pd (x : DecodedFrame) (s : State) : (appendOut x s).pd = s.pd := rfl
@[simp] theorem appendOut_ps (x : DecodedFrame) (s : State) : (appendOut x s).ps = s.ps := rfl
@[simp] theorem appendOut_fr (x : DecodedFrame) (s : State) : (appendOut x s).fr = s.fr := rfl
@[simp] theorem appendOut_cand (x : DecodedFrame) (s : State) : (appendOut x s).cand = s.cand := rfl
@[simp] theorem appendOut_streams (x : DecodedFrame) (s : State) : (appendOut x s).streams = s.streams :=
    rfl
@[simp] theorem appendOut_outq (x : DecodedFrame) (s : State) : (appendOut x s).outq = s.outq ++ [x] :=
    rfl
@[simp] theorem appendOut_params (x : DecodedFrame) (s : State) : (appendOut x s).params = s.params :=
    rfl
@[simp] theorem appendOut_host (x : DecodedFrame) (s : State) : (appendOut x s).host = s.host := rfl

@[simp] theorem endTick_run (x : EnvSample) (s : State) : (endTick x s).run = s.run := rfl
@[simp] theorem endTick_pos (x : EnvSample) (s : State) : (endTick x s).pos = s.pos + 1 := rfl
@[simp] theorem endTick_ctrl (x : EnvSample) (s : State) : (endTick x s).ctrl = s.ctrl := rfl
@[simp] theorem endTick_srcRate (x : EnvSample) (s : State) : (endTick x s).srcRate = s.srcRate :=
    rfl
@[simp] theorem endTick_err (x : EnvSample) (s : State) : (endTick x s).err = s.err := rfl
@[simp] theorem endTick_cfg (x : EnvSample) (s : State) : (endTick x s).cfg = s.cfg := rfl
@[simp] theorem endTick_pd (x : EnvSample) (s : State) : (endTick x s).pd = { s.pd with hist := #v[x, s.pd.hist[0]] } :=
    rfl
@[simp] theorem endTick_ps (x : EnvSample) (s : State) : (endTick x s).ps = s.ps := rfl
@[simp] theorem endTick_fr (x : EnvSample) (s : State) : (endTick x s).fr = s.fr := rfl
@[simp] theorem endTick_cand (x : EnvSample) (s : State) : (endTick x s).cand = s.cand := rfl
@[simp] theorem endTick_streams (x : EnvSample) (s : State) : (endTick x s).streams = s.streams :=
    rfl
@[simp] theorem endTick_outq (x : EnvSample) (s : State) : (endTick x s).outq = s.outq := rfl
@[simp] theorem endTick_params (x : EnvSample) (s : State) : (endTick x s).params = s.params := rfl
@[simp] theorem endTick_host (x : EnvSample) (s : State) : (endTick x s).host = s.host := rfl

end Sys2Proof.Machine
end

