-- ==== Sys2Proof/Laws/Operations.lean ====
section
/-! SUPPORT. What each shared operation can do, said once: which parts of the state it writes, and how. Later proofs cite
these instead of unfolding the operation. -/

namespace Sys2Proof.Machine

/-! ## Events -/

@[simp] theorem raise_configurationError (e : ErrCode) (s : State) :
    raise (.configurationError e) s =
      logEvent (.configurationError e) { s with run := .fault, err := e } := rfl

@[simp] theorem raise_streamTruncation (p : Pos) (s : State) :
    raise (.streamTruncation p) s = logEvent (.streamTruncation p) (closeWindow s) := rfl

@[simp] theorem raise_parityMismatch (p : Pos) (x : Syndrome) (s : State) :
    raise (.parityMismatch p x) s = logEvent (.parityMismatch p x) s := rfl

@[simp] theorem raise_uncorrectableFrame (p : Pos) (s : State) :
    raise (.uncorrectableFrame p) s = logEvent (.uncorrectableFrame p) s := rfl

@[simp] theorem raise_edgeAmbiguity (a : Ambiguity) (s : State) :
    raise (.edgeAmbiguity a) s = logEvent (.edgeAmbiguity a) s := rfl

@[simp] theorem raise_pulseRejected (w : Rejection) (p : Pos) (s : State) :
    raise (.pulseRejected w p) s = logEvent (.pulseRejected w p) s := rfl

@[simp] theorem raise_syncFail (k : BitVec 2) (p : Pos) (s : State) :
    raise (.syncFail k p) s = logEvent (.syncFail k p) s := rfl

@[simp] theorem raise_anchorDropped (p : Pos) (s : State) :
    raise (.anchorDropped p) s = logEvent (.anchorDropped p) s := rfl

/-- The end of a stream either finds no window of a running core, or closes it and logs that. -/
theorem truncateStream_cases (s : State) :
    (¬(s.run = .running ∧ s.fr.mode = .active) ∧ truncateStream s = s) ∨
    (s.run = .running ∧ s.fr.mode = .active ∧
      truncateStream s =
        { s with fr := { s.fr with mode := .idle },
                 host := { s.host with
                   log := s.host.log ++ [.streamTruncation s.fr.anchor.position] } }) := by
  unfold truncateStream
  split
  · rename_i h; exact .inr ⟨h.1, h.2, rfl⟩
  · rename_i h; exact .inl ⟨h, rfl⟩

/-! ## Stage operations: what each may write -/

/-- `s` with another `pd`, more pulses and more logged events: all that EDGE writes. -/
def withDetector (pd : PdState) (new : List Pulse) (evs : List Event) (s : State) : State :=
  { s with pd := pd, streams := { s.streams with pulse := s.streams.pulse ++ new },
           host := { s.host with log := s.host.log ++ evs } }

theorem edge_writes (e : EnvSample) (s : State) :
    ∃ pd new evs, edge e s = withDetector pd new evs s ∧ pd.hist = s.pd.hist ∧
      new.length ≤ 1 ∧ evs.length ≤ 1 := by
  have write : ∀ pd, setPd pd s = withDetector pd [] [] s := by intro pd; simp [withDetector, setPd]
  have log : ∀ pd ev, setPd pd (logEvent ev s) = withDetector pd [] [ev] s := by
    intro pd ev; simp [withDetector, setPd, logEvent, setHost]
  have out : ∀ pd p, emitPulse p (setPd pd s) = withDetector pd [p] [] s := by
    intro pd p; simp [withDetector, setPd, emitPulse, setStreams]
  unfold edge edgeLow edgeRconf edgeHigh edgeFconf
  dsimp only
  repeat' split
  all_goals first
    | exact ⟨_, _, _, write _, rfl, by simp, by simp⟩
    | exact ⟨_, _, _, log _ _, rfl, by simp, by simp⟩
    | exact ⟨_, _, _, out _ _, rfl, by simp, by simp⟩

/-- `s` with another `ps`, more anchors and more logged events: all that SYNC writes. -/
def withMatcher (ps : PsState) (new : List Anchor) (evs : List Event) (s : State) : State :=
  { s with ps := ps, streams := { s.streams with anchor := s.streams.anchor ++ new },
           host := { s.host with log := s.host.log ++ evs } }

theorem first_writes (p : Pulse) (s : State) : ∃ ps, first p s = setPs ps s := by
  unfold first; split <;> exact ⟨_, rfl⟩

theorem sync_writes (p : Pulse) (s : State) :
    ∃ ps new evs, sync p s = withMatcher ps new evs s ∧ new.length ≤ 1 ∧ evs.length ≤ 1 := by
  unfold sync
  split
  · obtain ⟨ps, h⟩ := first_writes p s
    exact ⟨ps, [], [], by simp [h, withMatcher, setPs], by simp, by simp⟩
  · split
    · split
      · exact ⟨_, [anchorOf p s], [], by simp [withMatcher, setPs, emitAnchor, setStreams]; rfl,
          by simp, by simp⟩
      · exact ⟨_, [], [], by simp [withMatcher, setPs]; rfl, by simp, by simp⟩
    · obtain ⟨ps, h⟩ := first_writes p (raise (.syncFail s.ps.k s.ps.p0) s)
      exact ⟨ps, [], [.syncFail s.ps.k s.ps.p0], by
        rw [h]; simp [withMatcher, setPs, logEvent, setHost], by simp, by simp⟩

/-- `s` with other `fr`, `cand`, internal streams and log: all that the Framer and PPM write. -/
def withWindow (fr : FrState) (cand : CandStore) (str : Streams) (evs : List Event) (s : State) :
    State :=
  { s with fr := fr, cand := cand, streams := str,
           host := { s.host with log := s.host.log ++ evs } }

/-- `t` differs from `s` only in `fr`, `cand`, the internal streams and events logged since. -/
def WritesWindow (s t : State) : Prop := ∃ fr cand str evs, t = withWindow fr cand str evs s

theorem WritesWindow.refl (s : State) : WritesWindow s s :=
  ⟨s.fr, s.cand, s.streams, [], by simp [withWindow]⟩

theorem WritesWindow.trans {s t u : State} (h : WritesWindow s t) (k : WritesWindow t u) :
    WritesWindow s u := by
  obtain ⟨fr, c, str, evs, rfl⟩ := h
  obtain ⟨fr', c', str', evs', rfl⟩ := k
  exact ⟨fr', c', str', evs ++ evs', by simp [withWindow]⟩

theorem setFr_writes (x : FrState) (s : State) : WritesWindow s (setFr x s) :=
  ⟨x, s.cand, s.streams, [], by simp [withWindow, setFr]⟩

theorem setCand_writes (x : CandStore) (s : State) : WritesWindow s (setCand x s) :=
  ⟨s.fr, x, s.streams, [], by simp [withWindow, setCand]⟩

theorem setStreams_writes (x : Streams) (s : State) : WritesWindow s (setStreams x s) :=
  ⟨s.fr, s.cand, x, [], by simp [withWindow, setStreams]⟩

theorem logEvent_writes (x : Event) (s : State) : WritesWindow s (logEvent x s) :=
  ⟨s.fr, s.cand, s.streams, [x], by simp [withWindow, logEvent, setHost]⟩

theorem frameOpen_writes (a : Anchor) (s : State) : WritesWindow s (frameOpen a s) := by
  unfold frameOpen
  split
  · exact (setFr_writes _ s).trans (setCand_writes _ _)
  · exact logEvent_writes _ s

theorem ppm_writes (o : SlotObs) (s : State) : WritesWindow s (ppm o s) := by
  unfold ppm storeSymbol
  dsimp only
  split
  · exact (setCand_writes _ s).trans (logEvent_writes _ _)
  · exact setCand_writes _ s

theorem frameLen_writes (s : State) : WritesWindow s (frameLen s) := setFr_writes _ s

theorem takeSlot_ppm_writes (s : State) : WritesWindow s (takeSlot ppm s) := by
  unfold takeSlot
  split
  · exact .refl s
  · exact (setStreams_writes _ s).trans (ppm_writes _ _)

theorem closeFrame_writes (s : State) : WritesWindow s (closeFrame s) :=
  (setFr_writes _ s).trans (setStreams_writes _ _)

theorem completeSlot_writes (s : State) : WritesWindow s (completeSlot s) := by
  have h1 := (setStreams_writes _ s).trans (takeSlot_ppm_writes (emitSlot (slotObs s.fr) s))
  have h2 := h1.trans (setFr_writes (nextSlot (takeSlot ppm (emitSlot (slotObs s.fr) s)).fr) _)
  have h3 := h2.trans (frameLen_writes _)
  unfold completeSlot
  dsimp only
  split <;> split
  · exact h3.trans (closeFrame_writes _)
  · exact h3
  · exact h2.trans (closeFrame_writes _)
  · exact h2

theorem frameAcc_writes (e : EnvSample) (s : State) : WritesWindow s (frameAcc e s) := by
  unfold frameAcc
  dsimp only
  split
  · split
    · exact (setFr_writes _ s).trans (completeSlot_writes _)
    · exact setFr_writes _ s
  · exact .refl s

/-- `s` with more records at the frame port and more logged events: all that CRC, FIX and EMIT write. -/
def withOutput (new : List DecodedFrame) (evs : List Event) (s : State) : State :=
  { s with outq := s.outq ++ new, host := { s.host with log := s.host.log ++ evs } }

theorem emit_writes (a : Anchor) (len : FrameLen) (w : List Bool) (st : ParityStatus)
    (dist : BitVec 2) (s : State) :
    (st = .invalid ∧ s.cfg.passAll = false ∧ emit a len w st dist s = s) ∨
    (¬(st = .invalid ∧ s.cfg.passAll = false) ∧
      emit a len w st dist s = withOutput [frameOf a len w st dist] [] s) := by
  unfold emit
  split
  · rename_i h; exact .inl ⟨h.1, h.2, rfl⟩
  · rename_i h; exact .inr ⟨h, by simp [withOutput, appendOut]⟩

theorem fix_writes (c : Candidate) (v : List Bool) (syn : Syndrome) (s : State) :
    ∃ new evs, fix c v syn s = withOutput new evs s ∧ new.length ≤ 1 := by
  unfold fix
  split
  · rename_i f _
    rcases emit_writes c.anchor c.len (flipBits v f) .corrected (BitVec.ofNat 2 f.length) s with
      ⟨h, _⟩ | ⟨_, h⟩
    · cases h
    · exact ⟨_, _, h, by simp⟩
  · rcases emit_writes c.anchor c.len v .invalid 0
      (raise (.uncorrectableFrame c.anchor.position) s) with ⟨_, _, h⟩ | ⟨_, h⟩
    · exact ⟨[], [_], by rw [h]; simp [withOutput, logEvent, setHost]; rfl, by simp⟩
    · exact ⟨_, [_], by rw [h]; simp [withOutput, logEvent, setHost]; exact ⟨rfl, rfl⟩, by simp⟩

theorem crc_writes (c : Candidate) (s : State) :
    ∃ new evs, crc c s = withOutput new evs s ∧ new.length ≤ 1 := by
  unfold crc
  dsimp only
  split
  · rcases emit_writes c.anchor c.len (provisional c.sym) .invalid 0
      (raise (.uncorrectableFrame c.anchor.position) s) with ⟨_, _, h⟩ | ⟨_, h⟩
    · exact ⟨[], [_], by rw [h]; simp [withOutput, logEvent, setHost]; rfl, by simp⟩
    · exact ⟨_, [_], by rw [h]; simp [withOutput, logEvent, setHost]; exact ⟨rfl, rfl⟩, by simp⟩
  · split
    · rcases emit_writes c.anchor c.len (provisional c.sym) .clean 0 s with ⟨h, _⟩ | ⟨_, h⟩
      · cases h
      · exact ⟨_, _, h, by simp⟩
    · obtain ⟨new, evs, h, hl⟩ := fix_writes c (provisional c.sym)
        (syndrome s.params.crcPoly (provisional c.sym))
        (raise (.parityMismatch c.anchor.position
          (syndrome s.params.crcPoly (provisional c.sym))) s)
      exact ⟨new, _ :: evs, by rw [h]; simp [withOutput, logEvent, setHost]; rfl, hl⟩

/-! ## Steps -/

/-- A register access the window does not have is refused. -/
theorem badAccess_refuses (off : Word) : ∃ why, badAccess off = .refused why := ⟨_, rfl⟩

/-- A step that goes on found nothing to do, or performed an operation of the environment, or performed what stood on the
bench. -/
theorem step_cases {s t : State} (h : step s = .next t) :
    paramsLegal s.params = true ∧
    ((s.host.bench = [] ∧ s.host.ops = [] ∧ t = s) ∨
     (s.host.bench = [] ∧ ∃ i rest, decode s.host.ops = .ok (i, rest) ∧ external i = true ∧
       exec i (setOps rest s) = .next t) ∨
     (∃ i rest, decode s.host.bench = .ok (i, rest) ∧ exec i (setBench [] s) = .next t)) := by
  unfold step stepQueue at h
  split at h
  · refine ⟨‹_›, ?_⟩
    split at h
    · rename_i hb
      unfold performWaiting at h
      split at h
      · rename_i ho; cases h; exact .inl ⟨hb, ho, rfl⟩
      · rename_i ho
        split at h
        · rename_i hd
          split at h
          · exact .inr (.inl ⟨hb, _, _, ho ▸ hd, ‹_›, h⟩)
          · cases h
        · cases h
    · rename_i hb
      unfold performBench at h
      split at h
      · rename_i hd; exact .inr (.inr ⟨_, _, hb ▸ hd, h⟩)
      · cases h
  · cases h

/-! ## The search of the corrector -/

/-- Every set that `flipSets d` lists is a sublist of `d` ranks. -/
theorem flipSets_sublist (d : Nat) (l f : List Nat) (h : f ∈ flipSets d l) :
    f.Sublist l ∧ f.length = d := by
  induction l generalizing d f with
  | nil =>
    cases d with
    | zero => simp only [flipSets, List.mem_singleton] at h; subst h; simp
    | succ d => simp [flipSets] at h
  | cons p ps ih =>
    cases d with
    | zero => simp only [flipSets, List.mem_singleton] at h; subst h; simp
    | succ d =>
      simp only [flipSets, List.mem_append, List.mem_map] at h
      rcases h with ⟨g, hg, rfl⟩ | h
      · obtain ⟨hs, hl⟩ := ih d g hg
        exact ⟨hs.cons_cons p, by simp [hl]⟩
      · obtain ⟨hs, hl⟩ := ih (d + 1) f h
        exact ⟨hs.cons p, hl⟩

/-- The flip-sets tried have 1 to `MAX_DIST` positions. -/
theorem searchOrder_length (m : Nat) (l f : List Nat) (h : f ∈ searchOrder m l) :
    1 ≤ f.length ∧ f.length ≤ m := by
  simp only [searchOrder, List.mem_flatMap, List.mem_range] at h
  obtain ⟨k, hk, hf⟩ := h
  have := (flipSets_sublist (k + 1) l f hf).2
  omega

/-- What FIX finds was in the list of flip-sets and was accepted. -/
theorem findFlips_some {p : Params} {c : Candidate} {v : List Bool} {syn : Syndrome}
    {f : List Nat} (h : findFlips p c v syn = some f) :
    f ∈ searchOrder p.maxDist (priorityList c.sym) ∧ accepted p c.len v syn f = true :=
  ⟨List.mem_of_find?_eq_some h, List.find?_some h⟩

/-- When FIX finds nothing, no flip-set in the list is accepted. -/
theorem findFlips_none {p : Params} {c : Candidate} {v : List Bool} {syn : Syndrome}
    (h : findFlips p c v syn = none) :
    ∀ f ∈ searchOrder p.maxDist (priorityList c.sym), accepted p c.len v syn f = false := by
  intro f hf
  have := List.find?_eq_none.1 h f hf
  simpa using this

/-! ## Register window -/

/-- A configuration write changes `CTRL`, `SRC_RATE` or nothing. -/
theorem writeConfig_cases (off v : Word) (s : State) :
    writeConfig off v s = s ∨
    (s.run = .idle ∧ off = 0x00 ∧ writeConfig off v s = { s with ctrl := ctrlOfWord v }) ∨
    (s.run = .idle ∧ off = 0x04 ∧ writeConfig off v s = { s with srcRate := v }) := by
  unfold writeConfig
  split
  · split
    · exact .inr (.inl ⟨by assumption, by assumption, rfl⟩)
    · split
      · exact .inr (.inr ⟨by assumption, by assumption, rfl⟩)
      · exact .inl rfl
  · exact .inl rfl

/-! ## Constants of 00_scope R6 -/

@[simp] theorem spu_msps8 : spu .msps8 = 8 := rfl
@[simp] theorem spu_msps10 : spu .msps10 = 10 := rfl
@[simp] theorem half_msps8 : half .msps8 = 4 := rfl
@[simp] theorem half_msps10 : half .msps10 = 5 := rfl
@[simp] theorem tol_eq (r : Rate) : tol r = 1 := by cases r <;> rfl
@[simp] theorem wMin_msps8 : wMin .msps8 = 3 := rfl
@[simp] theorem wMin_msps10 : wMin .msps10 = 4 := rfl
@[simp] theorem wMax_msps8 : wMax .msps8 = 9 := rfl
@[simp] theorem wMax_msps10 : wMax .msps10 = 11 := rfl

/-- `LAG = 2` at both rates: the history has two entries and its last is the comparison sample (41_pulse_detector R111). -/
theorem lag_eq (r : Rate) : lag r = 2 := by cases r <;> rfl

end Sys2Proof.Machine
end

