-- ==== Sys2Proof/Laws/PerInstr.lean ====
section
/-! SUPPORT. Statements about every operation as syntax, one lemma per constructor: the first byte of an operation is the
id that spec/30_encoding.md R90 assigns it, or the tag `0b001` with the five bits of the format field (R86). -/

namespace Sys2Proof.Laws

/-- The first byte of an operation's byte form. -/
def tagOf : Instr → Byte
  | .mag _ => 0x01
  | .edge _ => 0x02
  | .sync _ => 0x03
  | .frameOpen _ => 0x04
  | .frameAcc _ => 0x05
  | .frameLen => 0x06
  | .ppm _ => 0x07
  | .crc _ => 0x08
  | .fix _ _ _ => 0x09
  | .emit _ _ _ _ _ => 0x0A
  | .reset => 0x10
  | .wrcfg _ _ => 0x11
  | .rdreg _ => 0x12
  | .start _ => 0x13
  | .stop _ => 0x14
  | .clear _ => 0x15
  | .nop _ => 0x16
  | .push _ => 0x17
  | .pop => 0x18
  | .fmtShort low => 0x20 ||| low.setWidth 8
  | .fmtLong low => 0x30 ||| low.setWidth 8

/-- The encoder writes the operation's tag first. -/
def EncodeTag.Statement (i : Instr) : Prop := (encode i).head? = some (tagOf i)

namespace EncodeTag

theorem mag (smp : Sample) : Statement (.mag smp) := rfl
theorem edge (e : EnvSample) : Statement (.edge e) := rfl
theorem sync (p : Pulse) : Statement (.sync p) := rfl
theorem frameOpen (a : Anchor) : Statement (.frameOpen a) := rfl
theorem frameAcc (e : EnvSample) : Statement (.frameAcc e) := rfl
theorem frameLen : Statement .frameLen := rfl
theorem ppm (o : SlotObs) : Statement (.ppm o) := rfl
theorem crc (c : Candidate) : Statement (.crc c) := rfl
theorem fix (c : Candidate) (v : List Bool) (syn : Syndrome) : Statement (.fix c v syn) := rfl
theorem emit (a : Anchor) (len : FrameLen) (w : List Bool) (st : ParityStatus) (d : BitVec 2) :
    Statement (.emit a len w st d) := rfl
theorem reset : Statement .reset := rfl
theorem wrcfg (off v : Word) : Statement (.wrcfg off v) := rfl
theorem rdreg (off : Word) : Statement (.rdreg off) := rfl
theorem start (u : BitVec 30) : Statement (.start u) := rfl
theorem stop (u : BitVec 30) : Statement (.stop u) := rfl
theorem clear (u : BitVec 30) : Statement (.clear u) := rfl
theorem nop (u : BitVec 30) : Statement (.nop u) := rfl
theorem push (smp : Sample) : Statement (.push smp) := rfl
theorem pop : Statement .pop := rfl

theorem fmtShort (low : BitVec 4) : Statement (.fmtShort low) := by
  unfold Statement; revert low; decide

theorem fmtLong (low : BitVec 4) : Statement (.fmtLong low) := by
  unfold Statement; revert low; decide

end EncodeTag

end Sys2Proof.Laws
end

