-- ==== Sys2Proof/Tests/Slice0.lean ====
section
/-! SUPPORT. The model's own tests. Expected values come from spec/: the vectors of 95_test_vectors.md (named V-…), the
examples of the rules, or the encodings of 30_encoding.md written out by hand. The theorems named witness_… show that the
hypotheses of the statement of that name are met. -/

namespace Sys2Proof.Tests

open Sys2Proof Sys2Proof.Machine

-- One theorem at a time: each of them waits for the kernel, and a waiting theorem holds a thread.
set_option Elab.async false

/-- The next state of an outcome. -/
def after : Host.Outcome State Fault Refusal → Option State
  | .next s => some s
  | .fault _ => none
  | .refused _ => none

/-- Reset, then START: RUNNING at 8,000,000 samples per second and 6 dB. -/
def running : State := { State.reset with run := .running }

/-- The Anchor of 95_test_vectors V-F1. -/
def anchor16 : Anchor := { position := 16, chanRate := .msps8, confidence := 8 }

/-- A running core with the window of Anchor 16 open in slot `j`, about to consume position `n`. -/
def inWindow (j : BitVec 7) (n : Pos) (len : FrameLen) : State :=
  { running with
    pos := n
    fr := { FrState.initial with
      mode := .active, anchor := anchor16,
      dStart := 80, j := j, n := len } }

/-- A good envelope sample. -/
def lvl (a : Amp) : EnvSample := { amp := a, bad := false }

/-- A bad envelope sample. -/
def badEnv : EnvSample := { amp := 0, bad := true }

/-- A pulse of amplitude 1000. -/
def pulseAt (p : Pos) (w : BitVec 4) : Pulse :=
  { start := p, stop := p + w.setWidth 64, width := w, amp := 1000, famp := 1000 }

/-- A short candidate of Anchor 16 with zeros in every slot but the given one. -/
def candWith (j : Nat) (x : Sym) (nAmb : BitVec 7) : Candidate :=
  { anchor := anchor16, len := .short,
    sym := (List.replicate 56 Sym.zero).set j x, nAmb := nAmb }

/-- `n` zero bits. -/
def zeroBits (n : Nat) : List Bool := List.replicate n false

/-! ## WellFormed: each check refuses an ill-formed term -/

theorem test_ill_ampOfBad :
    (Instr.edge { amp := 1, bad := true }).illFormed = some .ampOfBad := by decide +kernel
theorem test_ill_ampRange : (Instr.frameAcc (lvl 46341)).illFormed = some .ampRange := by
  decide +kernel
theorem test_ill_pulseWidth :
    (Instr.sync { pulseAt 16 4 with width := 5 }).illFormed = some .pulseWidth := by decide +kernel
theorem test_ill_slotIndex :
    (Instr.ppm { e1 := 0, e2 := 0, b1 := false, b2 := false, j := 112 }).illFormed
      = some .slotIndex := by decide +kernel
theorem test_ill_symCount :
    (Instr.crc { candWith 0 .zero 0 with len := .long }).illFormed = some .symCount := by
  decide +kernel
theorem test_ill_ambigCount : (Instr.crc (candWith 3 .ambig 0)).illFormed = some .ambigCount := by
  decide +kernel
theorem test_ill_bitCount :
    (Instr.fix (candWith 0 .zero 0) (zeroBits 55) 1).illFormed = some .bitCount := by
  decide +kernel
theorem test_ill_statusDist :
    (Instr.emit anchor16 .short (zeroBits 56) .clean 1).illFormed = some .statusDist := by
  decide +kernel
theorem test_ill_commandOffset : (Instr.wrcfg 0x08 1).illFormed = some .commandOffset := by
  decide +kernel

/-! ## Decode: one word for every constructor, written out from the layouts of 30_encoding -/

theorem test_decode_mag :
    decode [0x01, 0xFB, 0xFF, 0x0C, 0, 0] = .ok (.mag { i := -5, q := 12, bad := false }, []) := by
  decide +kernel
theorem test_decode_edge : decode [0x02, 0, 0, 0x01] = .ok (.edge badEnv, []) := by decide +kernel
theorem test_decode_sync :
    decode [0x03, 16, 0, 0, 0, 0, 0, 0, 0, 20, 0, 0, 0, 0, 0, 0, 0, 0x84, 0x3E, 0x80, 0x3E, 0]
      = .ok (.sync (pulseAt 16 4), []) := by decide +kernel
theorem test_decode_frameOpen :
    decode [0x04, 16, 0, 0, 0, 0, 0, 0, 0, 0x11]
      = .ok (.frameOpen { position := 16, chanRate := .msps10, confidence := 8 }, []) := by
  decide +kernel
theorem test_decode_frameAcc : decode [0x05, 0xE8, 0x03, 0] = .ok (.frameAcc (lvl 1000), []) := by
  decide +kernel
theorem test_decode_frameLen : decode [0x06, 7] = .ok (.frameLen, [7]) := by decide +kernel
theorem test_decode_ppm :
    decode [0x07, 0xA0, 0x0F, 0x40, 0x1F, 0x60, 0x01]
      = .ok (.ppm { e1 := 4000, e2 := 2000, b1 := false, b2 := true, j := 5 }, []) := by
  decide +kernel
theorem test_decode_crc :
    decode ([0x08, 16, 0, 0, 0, 0, 0, 0, 0, 0x50, 0, 0x02] ++ List.replicate 13 0)
      = .ok (.crc (candWith 0 .ambig 1), []) := by decide +kernel
theorem test_decode_fix :
    decode ([0x09, 16, 0, 0, 0, 0, 0, 0, 0, 0x10, 0, 0x04] ++ List.replicate 13 0 ++
        [0x02, 0, 0, 0, 0, 0, 0, 0x67, 0x85, 0x01])
      = .ok (.fix (candWith 1 .one 0) ((zeroBits 56).set 1 true) 0x018567, []) := by decide +kernel
theorem test_decode_emit :
    decode [0x0A, 16, 0, 0, 0, 0, 0, 0, 0, 0x50, 0x01, 0x02, 0, 0, 0, 0, 0, 0]
      = .ok (.emit anchor16 .short ((zeroBits 56).set 1 true) .corrected 1, []) := by decide +kernel
theorem test_decode_reset : decode [0x10] = .ok (.reset, []) := by decide +kernel
theorem test_decode_wrcfg :
    decode [0x11, 0x04, 0, 0, 0, 0x00, 0x12, 0x7A, 0x00] = .ok (.wrcfg 0x04 8000000, []) := by
  decide +kernel
theorem test_decode_rdreg : decode [0x12, 0x0C, 0, 0, 0] = .ok (.rdreg 0x0C, []) := by
  decide +kernel
theorem test_decode_start : decode [0x13, 0x02, 0, 0, 0] = .ok (.start 2, []) := by decide +kernel
theorem test_decode_start_write :
    decode [0x11, 0x08, 0, 0, 0, 0x01, 0, 0, 0] = .ok (.start 0, []) := by decide +kernel
theorem test_decode_stop : decode [0x14, 0, 0, 0, 0] = .ok (.stop 0, []) := by decide +kernel
theorem test_decode_stop_write :
    decode [0x11, 0x08, 0, 0, 0, 0xFE, 0, 0, 0] = .ok (.stop 0x3F, []) := by decide +kernel
theorem test_decode_clear : decode [0x15, 0, 0, 0, 0] = .ok (.clear 0, []) := by decide +kernel
theorem test_decode_clear_write :
    decode [0x11, 0x08, 0, 0, 0, 0x03, 0, 0, 0] = .ok (.clear 0, []) := by decide +kernel
theorem test_decode_nop : decode [0x16, 0, 0, 0, 0] = .ok (.nop 0, []) := by decide +kernel
theorem test_decode_nop_write :
    decode [0x11, 0x08, 0, 0, 0, 0x04, 0, 0, 0] = .ok (.nop 1, []) := by decide +kernel
theorem test_decode_push :
    decode [0x17, 0x03, 0, 0x04, 0, 0x01] = .ok (.push { i := 3, q := 4, bad := true }, []) := by
  decide +kernel
theorem test_decode_pop : decode [0x18] = .ok (.pop, []) := by decide +kernel
theorem test_decode_fmtShort : decode [0x24] = .ok (.fmtShort 4, []) := by decide +kernel
theorem test_decode_fmtLong : decode [0x31] = .ok (.fmtLong 1, []) := by decide +kernel

/-- Ids that 30_encoding R90 leaves unassigned, a set bit above a record, code 3 and short bytes are refused by name. -/
theorem test_decode_refuses :
    decode [0x0F] = .error (.unassigned 0x0F) ∧ decode [0x00] = .error (.unassigned 0x00) ∧
    decode [] = .error .noBytes ∧ decode [0x01, 0, 0, 0, 0] = .error .truncated ∧
    decode [0x01, 0, 0, 0, 0, 0x02] = .error .padding ∧
    decode ([0x08, 16, 0, 0, 0, 0, 0, 0, 0, 0x10, 0, 0x03] ++ List.replicate 13 0)
      = .error .reservedCode := by decide +kernel

/-- Opcode-table words: one byte is an op id, a longer word is the data of a `CMD` write. -/
theorem test_table_words :
    decodeTableWord 8 0x06 = some .frameLen ∧ decodeTableWord 8 0x18 = some .pop ∧
    decodeTableWord 32 0x01 = some (.start 0) ∧ decodeTableWord 32 0x02 = some (.stop 0) ∧
    decodeTableWord 8 0x00 = some (.fmtShort 0) ∧ decodeTableWord 8 0x0B = none := by
  decide +kernel

theorem test_step_runs_table_word :
    (after (step (State.reset.withFetchWord 32 0x01))).map (·.run) = some .running := by
  decide +kernel
/-- A stage operation stands on the bench for one step only. -/
theorem test_step_runs_stage_word :
    let s := { inWindow 5 119 .long with cand := CandStore.initial }
    (after (step (s.withFetchWord 8 0x06))).map (fun t => (t.fr.n, t.host.bench))
      = some (.short, []) := by decide +kernel
/-- 47_host_commands R220, R230: the environment has no FRAME.LEN, alone or before a POP. -/
theorem test_step_refuses_stage :
    step { running with host := { running.host with ops := [0x06, 0x18] } }
      = .refused .notExternal := rfl
/-- 93_implementation_defined section 2: a generator without constant term is refused. -/
theorem test_step_refuses_parameters :
    step { State.reset with params := { Params.default with crcPoly := 0xFFF408 } }
      = .refused .illegalParameters := rfl
/-- 20_memory R55, R54. -/
theorem test_rdreg_outside :
    exec (.rdreg 0x10) running = .refused (.outsideWindow 0x10) ∧
    exec (.wrcfg 0x06 1) running = .refused (.unaligned 0x06) := ⟨rfl, rfl⟩

/-! ## One step of each operation, against the vectors of 95_test_vectors -/

/-- V-M4. -/
theorem test_mag_largest :
    (after (exec (.mag { i := -32768, q := -32768, bad := false }) State.reset)).map
      (·.streams.envelope) = some [lvl 46340] := by decide +kernel
/-- V-M11. -/
theorem test_mag_bad :
    (after (exec (.mag { i := 5, q := 7, bad := true }) State.reset)).map (·.streams.envelope)
      = some [badEnv] := by decide +kernel

/-- V-E1 to V-E14. -/
theorem test_exceeds :
    exceeds 0 0 0 = false ∧ exceeds 15 1 0 = true ∧ exceeds 0 5 5 = false ∧ exceeds 0 6 5 = true ∧
    exceeds 6 200 100 = true ∧ exceeds 6 199 100 = false ∧ exceeds 15 562 100 = false ∧
    exceeds 15 563 100 = true ∧ exceeds 3 141 100 = false ∧ exceeds 3 142 100 = true ∧
    exceeds 6 4000 2000 = true ∧ exceeds 6 4000 2100 = false ∧ exceeds 15 231700 0 = true ∧
    exceeds 15 231700 231699 = false := by decide +kernel

/-- Four samples of 1000 over 0 from position 10 (V-P4): the pulse {10, 14, 4, 1000, 1000}. -/
theorem test_edge_pulse :
    (detect (List.replicate 10 (lvl 0) ++ List.replicate 4 (lvl 1000) ++ List.replicate 2 (lvl 0))
      running).streams.pulse = [pulseAt 10 4] := by decide +kernel
/-- V-P17: a ramp gives the pulse {3, 9, 6, 700, 1000}. -/
theorem test_edge_ramp :
    (detect [lvl 0, lvl 0, lvl 0, lvl 300, lvl 700, lvl 1000, lvl 1000, lvl 1000, lvl 700, lvl 300,
      lvl 0] running).streams.pulse
      = [{ start := 3, stop := 9, width := 6, amp := 700, famp := 1000 }] := by decide +kernel

/-- V-S4: the third pulse falls one late, confidence 7. -/
theorem test_sync_anchor :
    (matchPulses [pulseAt 16 4, pulseAt 24 4, pulseAt 44 5, pulseAt 52 4] running).streams.anchor
      = [{ anchor16 with confidence := 7 }] := by decide +kernel
/-- V-S3: the failing pulse becomes a first pulse, and so does the next one. -/
theorem test_sync_fail :
    let s := matchPulses [pulseAt 16 4, pulseAt 26 4, pulseAt 44 4, pulseAt 52 4] running
    s.ps = { k := 2, p0 := 44, conf := 4 } ∧ s.streams.anchor = [] ∧
      s.host.log = [.syncFail 1 16, .syncFail 1 26] := by decide +kernel

/-- V-F2. -/
theorem test_frameOpen :
    (after (exec (.frameOpen { anchor16 with chanRate := .msps10 }) running)).map (·.fr.dStart)
      = some 96 := by decide +kernel
/-- V-F12. -/
theorem test_frameOpen_drop :
    (after (exec (.frameOpen { anchor16 with position := 216 }) (inWindow 20 257 .short))).map
      (fun t => (t.host.log, t.fr.anchor.position)) = some ([.anchorDropped 216], 16) := by
  decide +kernel

/-- The example of 43_framer R164: tick 87 completes slot 0 with energies 0 and 4000, a ZERO (V-F11). -/
theorem test_frameAcc_slot :
    let s := accumulate (List.replicate 4 (lvl 0) ++ List.replicate 4 (lvl 1000))
      { inWindow 0 80 .short with cand := { CandStore.initial with
        sym := Vector.replicate 112 .one } }
    s.cand.sym[0] = .zero ∧ s.cand.sym[1] = .one ∧ s.fr.j = 1 ∧ s.fr.e1 = 0 := by decide +kernel
/-- V-F5: the window of a short frame closes in tick 527. -/
theorem test_frameAcc_close :
    (after (exec (.frameAcc (lvl 1000)) (inWindow 55 527 .short))).map
      (fun t => (t.fr.mode, t.streams.candidate.map (·.sym.length))) = some (.idle, [56]) := by
  decide +kernel

/-- The example of 43_framer R167. -/
theorem test_frameLen_long :
    (after (exec .frameLen { inWindow 5 119 .short with cand := { CandStore.initial with
      sym := ((Vector.replicate 112 .zero).set 0 .one).set 4 .one } })).map (·.fr.n)
      = some .long := by decide +kernel
/-- V-F7. -/
theorem test_frameLen_ambig :
    (after (exec .frameLen { inWindow 5 119 .long with cand := { CandStore.initial with
      sym := (Vector.replicate 112 .zero).set 0 .ambig } })).map (·.fr.n) = some .short := by
  decide +kernel

/-- V-F11: (4000, 2000) is ONE. -/
theorem test_ppm_one :
    (after (exec (.ppm { e1 := 4000, e2 := 2000, b1 := false, b2 := false, j := 9 }) running)).map
      (fun t => (t.cand.sym[9], t.cand.nAmb)) = some (.one, 0) := by decide +kernel
/-- V-F11: (4000, 2100) is AMBIG. -/
theorem test_ppm_ambig :
    (after (exec (.ppm { e1 := 4000, e2 := 2100, b1 := false, b2 := false, j := 9 }) running)).map
      (fun t => (t.cand.sym[9], t.cand.nAmb, t.host.log))
      = some (.ambig, 1, [.edgeAmbiguity (.bit 9)]) := by decide +kernel

/-- V-C2, V-C3, V-C4. -/
theorem test_parity :
    parity 0xFFF409 ((zeroBits 32).set 31 true) = 0xFFF409 ∧
    parity 0xFFF409 ((zeroBits 32).set 0 true) = 0x018567 ∧
    syndrome 0xFFF409 (bitsOf 56 0x4BA8C328663CBA) = 0 := by decide +kernel
/-- V-C6, V-C7. -/
theorem test_flipSyndrome :
    flipSyndrome 0xFFF409 112 0 = 0x3935EA ∧ flipSyndrome 0xFFF409 112 40 = 0x91C77F ∧
    flipSyndrome 0xFFF409 112 88 = 0x800000 ∧ flipSyndrome 0xFFF409 56 10 = 0x457C29 ∧
    flipSyndrome 0xFFF409 56 55 = 1 := by decide +kernel
/-- 45_parity_checker R192: the all-zero frame is clean. -/
theorem test_crc_clean :
    (after (exec (.crc (candWith 0 .zero 0)) running)).map (·.outq) =
      some [{ bits := 0, long := .short, status := .clean, dist := 0, position := 16 }] := by
  decide +kernel
/-- V-C12: three AMBIG symbols are more than the budget. -/
theorem test_crc_gate :
    (after (exec (.crc (candWith 0 .zero 3)) running)).map (fun t => (t.outq, t.host.log))
      = some ([], [.uncorrectableFrame 16]) := by decide +kernel

/-- V-X7 without its ambiguous symbols: a flip of position 50 is undone. -/
theorem test_fix_single :
    (after (exec (.fix (candWith 50 .one 0) ((zeroBits 56).set 50 true) 0x20) running)).map (·.outq)
      = some [{ bits := 0, long := .short, status := .corrected, dist := 1, position := 16 }] := by
  decide +kernel
/-- 46_error_corrector R201, R203: ranks, and the first flip-sets of each size. -/
theorem test_searchOrder :
    priorityList [.one, .ambig, .zero, .ambig] = [1, 3, 0, 2] ∧
    searchOrder 2 [1, 3, 0] = [[1], [3], [0], [1, 3], [1, 0], [3, 0]] := by decide +kernel

/-- V-X10: `5D3C6614C315D2`; its bits in frame order, first bit lowest, are the number below. -/
theorem test_emit_short :
    (after (exec (.emit anchor16 .short (bitsOf 56 0x4BA8C328663CBA) .clean 0) running)).map
      (fun t => t.outq.map (·.bits)) = some [0x5D3C6614C315D200000000000000] := by decide +kernel
/-- V-X8. -/
theorem test_emit_dropped :
    (after (exec (.emit anchor16 .short (zeroBits 56) .invalid 0) running)).map (·.outq)
      = some [] := by decide +kernel

/-- V-H1: STATUS after a reset out of a running window is 0. -/
theorem test_reset :
    (after (exec .reset (inWindow 9 160 .short))).map (fun t => (readWord 0x0C t, t.fr.dStart))
      = some (some 0, 0) := by decide +kernel
/-- V-H3. -/
theorem test_wrcfg_mask :
    (after (exec (.wrcfg 0x00 0xFFFFFFFF) State.reset)).map (readWord 0x00)
      = some (some 0x000000F7) := by decide +kernel
/-- V-H4. -/
theorem test_wrcfg_locked :
    (after (exec (.wrcfg 0x00 0x00000001) running)).map (readWord 0x00)
      = some (some 0x00000060) := by decide +kernel
/-- V-H11. -/
theorem test_rdreg_status :
    (after (exec (.rdreg 0x0C) (inWindow 9 160 .short))).map (·.host.rdData)
      = some 0x00000101 := by decide +kernel
/-- V-H5. -/
theorem test_start_floor :
    (after (exec (.start 0) { State.reset with srcRate := 7999999 })).map (readWord 0x0C)
      = some (some 0x00000012) := by decide +kernel
/-- V-H7. -/
theorem test_start_resampler :
    (after (exec (.start 0) { State.reset with
      srcRate := 12000000, ctrl := ctrlOfWord 0x63 })).map (readWord 0x0C) = some (some 1) := by
  decide +kernel
/-- V-T1. -/
theorem test_stop_window :
    (after (exec (.stop 0) (inWindow 27 300 .short))).map (fun t => (t.run, t.fr.mode, t.host.log))
      = some (.idle, .idle, [.streamTruncation 16]) := by decide +kernel
/-- V-H10. -/
theorem test_clear_fault :
    (after (exec (.clear 0) { State.reset with run := .fault, err := .rateUnsupported })).map
      (readWord 0x0C) = some (some 0) := by decide +kernel
/-- 47_host_commands R229. -/
theorem test_nop : exec (.nop 5) running = .next running := rfl
/-- The example of 47_host_commands R224. -/
theorem test_push_first :
    (after (exec (.push { i := 3, q := 4, bad := false }) running)).map
      (fun t => (t.pos, t.pd.hist[0], t.pd.mode)) = some (1, lvl 5, .low) := by decide +kernel
/-- The tick that closes a window appends the frame (43_framer R168): slot 55, a ZERO, completes an
all-zero frame, clean. -/
theorem test_push_closes :
    (after (exec (.push { i := 1000, q := 0, bad := false }) (inWindow 55 527 .short))).map
      (fun t => t.outq.map (fun f => (f.status, f.position))) = some [(.clean, 16)] := by
  decide +kernel
/-- The example of 47_host_commands R228. -/
theorem test_pop :
    (after (exec .pop { running with outq :=
      [{ bits := 0, long := .short, status := .clean, dist := 0, position := 16 }] })).map
      (fun t => (t.outq, t.host.taken.map (·.position), readWord 0x0C t))
      = some ([], [16], some 1) := by decide +kernel
/-- 30_encoding R86 with the default predicate. -/
theorem test_fmtShort :
    (after (exec (.fmtShort 15) { running with fr := { FrState.initial with n := .long } })).map
      (·.fr.n) = some .short := by decide +kernel
theorem test_fmtLong :
    (after (exec (.fmtLong 0) running)).map (·.fr.n) = some .long := by decide +kernel

/-! ## Witnesses: the hypotheses of each statement are met -/

/-- A tick of a window whose last sample this is. -/
def lastTick : Instr := .push { i := 1000, q := 0, bad := false }

theorem inWindow_pipe : PipeInv (inWindow 55 527 .short) := by
  refine ⟨by decide +kernel, rfl, rfl, ⟨nofun, nofun⟩, fun h => absurd rfl h, fun _ => ?_, fun _ => ?_⟩ <;>
    decide +kernel

theorem running_core (ops : List Byte) : CoreInv { running with
    host := { running.host with ops := ops } } := by
  refine ⟨?_, ?_, ?_, ?_, ?_⟩
  · show paramsLegal Params.default = true
    decide +kernel
  · exact ⟨(fun h => nomatch h), (fun h => absurd rfl h)⟩
  all_goals
    intro x h
    cases h

theorem witness_DecodeOfEncode :
    (Instr.sync (pulseAt 16 4)).WellFormed ∧ (Instr.crc (candWith 3 .ambig 1)).WellFormed ∧
    (Instr.emit anchor16 .short (zeroBits 56) .corrected 1).WellFormed ∧
    (Instr.frameAcc (lvl 46340)).WellFormed := by decide +kernel

theorem witness_DecodeTakesWellFormedFront :
    decode [0x12, 0x0C, 0, 0, 0, 0x18] = .ok (.rdreg 0x0C, [0x18]) := by decide +kernel

/-- An operation of the environment, another one, none, no operation; the bench empty and not; illegal parameters. -/
theorem witness_StepPerformsDecodedOperation :
    paramsLegal State.reset.params = true ∧ State.reset.host.bench = [] ∧
    decode [0x18, 0x10] = .ok (.pop, [0x10]) ∧ external .pop = true ∧
    decode [0x06] = .ok (.frameLen, []) ∧ external .frameLen = false ∧
    State.reset.host.ops = [] ∧ decode [0x0B] = .error (.unassigned 0x0B) ∧
    (State.reset.withFetchWord 8 0x06).host.bench ≠ [] ∧
    paramsLegal { Params.default with maxDist := 4 } = false := by decide +kernel

theorem witness_StepKeepsCoreInv :
    let s := { running with host := { running.host with ops := [0x17, 3, 0, 4, 0, 0] } }
    CoreInv s ∧ (after (step s)).map (·.pos) = some 1 :=
  ⟨running_core _, by decide +kernel⟩

theorem witness_EnvironmentKeepsPipeInv :
    external lastTick = true ∧ PipeInv (inWindow 55 527 .short) ∧
    (after (exec lastTick (inWindow 55 527 .short))).map (·.fr.mode) = some .idle ∧
    step (inWindow 55 527 .short) = .next (inWindow 55 527 .short) :=
  ⟨rfl, inWindow_pipe, by decide +kernel, rfl⟩

theorem witness_PushEmitsOnlyGuaranteedFrames :
    PipeInv (inWindow 55 527 .short) ∧
    (after (exec lastTick (inWindow 55 527 .short))).map (·.outq.length) = some 1 :=
  ⟨inWindow_pipe, by decide +kernel⟩

/-- The state after reset, and an idle one that a stopped run left behind. -/
theorem witness_SessionOutputIsDetermined :
    let s := { inWindow 9 160 .short with run := .idle }
    (after (execAll (session [{ i := 3, q := 4, bad := false }]) State.reset)).map (·.pos) = some 1 ∧
    State.reset.run = .idle ∧ s.run = .idle ∧ s.ctrl = State.reset.ctrl ∧
    s.srcRate = State.reset.srcRate ∧ s.params = State.reset.params := by decide +kernel

theorem witness_HostSideIsNeverRead : exec (.nop 0) running = .next running := rfl

/-- A register write in IDLE, a START in IDLE, a RESET: each clause of the statement happens. -/
theorem witness_ConfigurationIsLocked :
    (after (exec (.wrcfg 0x00 0x65) State.reset)).map (fun t => decide (t.ctrl ≠ State.reset.ctrl))
      = some true ∧
    (after (exec (.wrcfg 0x04 9) State.reset)).map
      (fun t => decide (t.srcRate ≠ State.reset.srcRate)) = some true ∧
    (after (exec (.start 0) { State.reset with ctrl := ctrlOfWord 0x64 })).map
      (fun t => decide (t.cfg ≠ State.reset.cfg)) = some true := by decide +kernel

theorem witness_RunStateTransitions :
    (after (exec (.start 0) State.reset)).map (·.run) = some .running ∧
    (after (exec (.start 0) { State.reset with srcRate := 0 })).map (fun t => (t.run, t.err))
      = some (.fault, .rateBelowFloor) ∧
    (after (exec (.stop 0) running)).map (·.run) = some .idle ∧
    (after (exec (.clear 0) running)).map (·.run) = some .idle := by decide +kernel

theorem witness_PositionCounterMoves :
    (after (exec lastTick running)).map (·.pos) = some 1 ∧
    (after (exec (.clear 0) (inWindow 9 160 .short))).map (·.pos) = some 0 := by decide +kernel

theorem witness_FramePortIsFifo :
    (after (exec lastTick (inWindow 55 527 .short))).map (·.outq.length) = some 1 ∧
    lastTick ≠ .reset ∧ (∀ u, lastTick ≠ .clear u) ∧ lastTick ≠ .pop :=
  ⟨by decide +kernel, by decide, fun _ h => (nomatch h), by decide⟩

/-- Good and bad samples. -/
theorem witness_MagEmitsFloorOfRoot :
    Sample.bad { i := 3, q := 4, bad := true } = true ∧
    Sample.bad { i := 3, q := 4, bad := false } = false := by decide

theorem witness_EdgeInLow : running.pd.mode = .low := rfl

theorem witness_EdgeInRconf :
    { running with pd := { running.pd with mode := .rconf } }.pd.mode = .rconf := rfl

theorem witness_EdgeInHigh :
    { running with pd := { running.pd with mode := .high } }.pd.mode = .high := rfl

theorem witness_EdgeInFconf :
    { running with pd := { running.pd with mode := .fconf } }.pd.mode = .fconf := rfl

/-- A quiet detector at a rate. -/
def quiet (r : Rate) : State :=
  { running with
    cfg := { running.cfg with rateSel := r }
    pd := { running.pd with hist := #v[lvl 100, lvl 100] } }

/-- The smallest and the largest width at both rates, and the smallest step that 6 dB admits (V-E5). -/
theorem witness_IdealPulseIsDetected :
    (∀ r, (quiet r).pd.mode = .low ∧ (quiet r).pd.hist = #v[lvl 100, lvl 100] ∧
      exceeds (quiet r).cfg.threshSel 200 100 = true) ∧
    wMin .msps8 ≤ 3 ∧ 3 ≤ wMax .msps8 ∧ wMin .msps8 ≤ 9 ∧ 9 ≤ wMax .msps8 ∧
    wMin .msps10 ≤ 4 ∧ 4 ≤ wMax .msps10 ∧ wMin .msps10 ≤ 11 ∧ 11 ≤ wMax .msps10 :=
  ⟨fun r => by cases r <;> exact ⟨rfl, rfl, by decide +kernel⟩, by decide +kernel⟩

/-- A running core that has matched `k` pulses from position 16. -/
def matched (k : BitVec 2) : State := { running with ps := { k := k, p0 := 16, conf := 2 } }

theorem witness_SyncFirstPulse : (matched 0).ps.k = 0 := rfl

/-- Every edge of every continuing pulse at its tolerance, early and late. -/
theorem witness_SyncContinuation :
    ([(1 : BitVec 2), 2, 3].all fun k => [(-1 : BitVec 64), 0, 1].all fun d =>
      let rise := (matched k).ps.p0 + BitVec.ofNat 64 (preRise (matched k).params k * half .msps8)
      let fall := (matched k).ps.p0 + BitVec.ofNat 64 (preFall (matched k).params k * half .msps8)
      decide ((matched k).ps.k = k ∧
        ((rise + d) - rise).toInt.natAbs ≤ tol (matched k).cfg.rateSel ∧
        ((fall - d) - fall).toInt.natAbs ≤ tol (matched k).cfg.rateSel)) = true := by
  decide +kernel

/-- V-S3 and V-S5: one edge two samples off is enough. -/
theorem witness_SyncFailedContinuation :
    (matched 1).ps.k ≠ 0 ∧ (matched 2).ps.k ≠ 0 ∧
    tol (matched 1).cfg.rateSel < ((26 : Pos) - ((matched 1).ps.p0 +
      BitVec.ofNat 64 (preRise (matched 1).params 1 * half .msps8))).toInt.natAbs ∧
    tol (matched 2).cfg.rateSel < ((50 : Pos) - ((matched 2).ps.p0 +
      BitVec.ofNat 64 (preFall (matched 2).params 2 * half .msps8))).toInt.natAbs := by
  decide +kernel

/-- V-S9: every later pulse off by one. -/
theorem witness_PreambleWithinToleranceAnchors :
    (matched 0).ps.k = 0 ∧
    ((((pulseAt 16 4).width.toNat : Int) - half .msps8).natAbs ≤ tol .msps8) ∧
    ∀ x ∈ [((1 : BitVec 2), pulseAt 23 4), (2, pulseAt 45 4), (3, pulseAt 51 4)],
      (x.2.start - (16 + BitVec.ofNat 64 (preRise (matched 0).params x.1 * half .msps8))).toInt.natAbs
        ≤ tol .msps8 ∧
      (x.2.stop - (16 + BitVec.ofNat 64 (preFall (matched 0).params x.1 * half .msps8))).toInt.natAbs
        ≤ tol .msps8 := by decide +kernel

theorem witness_FrameOpenOrDrop :
    running.fr.mode = .idle ∧ (inWindow 0 80 .short).fr.mode = .active := ⟨rfl, rfl⟩

/-- No window; the last sample before a window. -/
theorem witness_FrameAccOutsideWindow :
    running.fr.mode = .idle ∧
    ((inWindow 0 79 .short).pos - (inWindow 0 79 .short).fr.dStart).toInt < 0 := by decide +kernel

/-- The first and the last sample of each half, but for the slot's last. -/
theorem witness_FrameAccInsideSlot :
    ([80, 83, 84, 86].all fun n =>
      let s := inWindow 0 (BitVec.ofNat 64 n) .short
      decide (s.fr.mode = .active ∧ 0 ≤ (s.pos - s.fr.dStart).toInt ∧
        (s.pos - s.fr.dStart).toNat % spu s.fr.rate + 1 ≠ spu s.fr.rate)) = true := by
  decide +kernel

/-- Slot 5 of a short window, and the slot before the last one of a long window. -/
theorem witness_SlotBecomesSymbolOfItsEnergies :
    (∀ x ∈ [((5 : BitVec 7), (120 : Pos), FrameLen.short), (110, 960, .long)],
      let s := inWindow x.1 x.2.1 x.2.2
      s.fr.mode = .active ∧ s.streams.slot = [] ∧
      (s.pos - s.fr.dStart).toNat = s.fr.j.toNat * spu s.fr.rate ∧
      s.fr.e0 = 0 ∧ s.fr.e1 = 0 ∧ s.fr.b0 = false ∧ s.fr.b1 = false ∧
      s.fr.j.toNat + 1 < s.fr.n.slots ∧ s.fr.j.toNat ≠ 4) ∧
    (List.replicate 8 (lvl 46340)).length = spu .msps8 ∧
    (∀ e ∈ List.replicate 8 (lvl 46340), e.bad = false ∧ e.amp.toNat ≤ 46340) := by decide +kernel

/-- The last samples of slots 0, 3 and 5 of a short window. -/
theorem witness_SlotEndStoresSymbol :
    ([(0, 87), (3, 111), (5, 127)].all fun x =>
      let s := inWindow (BitVec.ofNat 7 x.1) (BitVec.ofNat 64 x.2) .short
      decide (s.fr.mode = .active ∧ 0 ≤ (s.pos - s.fr.dStart).toInt ∧
        (s.pos - s.fr.dStart).toNat % spu s.fr.rate + 1 = spu s.fr.rate ∧ s.streams.slot = [] ∧
        s.fr.j ≠ 4 ∧ s.fr.j.toNat + 1 ≠ s.fr.n.slots)) = true := by
  decide +kernel

/-- Tick 119 (V-F5). -/
theorem witness_SlotFourSelectsLength :
    let s := inWindow 4 119 .short
    s.fr.mode = .active ∧ 0 ≤ (s.pos - s.fr.dStart).toInt ∧
    (s.pos - s.fr.dStart).toNat % spu s.fr.rate + 1 = spu s.fr.rate ∧ s.streams.slot = [] ∧
    s.fr.j = 4 := by decide +kernel

/-- Ticks 527 and 975 (V-F5). -/
theorem witness_LastSlotClosesWindow :
    ∀ x ∈ [((55 : BitVec 7), (527 : Pos), FrameLen.short), (111, 975, .long)],
      let s := inWindow x.1 x.2.1 x.2.2
      s.fr.mode = .active ∧ 0 ≤ (s.pos - s.fr.dStart).toInt ∧
      (s.pos - s.fr.dStart).toNat % spu s.fr.rate + 1 = spu s.fr.rate ∧ s.streams.slot = [] ∧
      s.fr.j.toNat + 1 = s.fr.n.slots := by decide +kernel

theorem witness_FormatFieldSelectsLength : running.params = Params.default := rfl

/-- The boundary pairs of V-F11: 2000 against 4000 is clear, 2100 is not; a bad half is ambiguous. -/
theorem witness_PpmStoresSymbol :
    (2000 < 4000 ∧ 2000 * gain running.cfg.threshSel ≤ 4000 * 256) ∧
    ¬(2100 * gain running.cfg.threshSel ≤ 4000 * 256) ∧ ¬(4000 < 2100) ∧
    SlotObs.b1 { e1 := 4000, e2 := 0, b1 := true, b2 := false, j := 0 } = true := by decide +kernel

theorem witness_ComparisonIsScaleFree : 1 ≤ 1 ∧ 0 < 1 := by decide

/-- Vectors of one length, different positions inside the vector, the first position of the parity field and the last one. -/
theorem witness_SyndromeIsLinear :
    (zeroBits 56).length = ((zeroBits 56).set 3 true).length ∧ ([10, 55] : List Nat).Nodup ∧
    (∀ p ∈ [10, 55], p < (zeroBits 56).length) ∧ 55 < 56 ∧ 56 ≤ 32 + 24 ∧ 56 ≤ 55 + 24 ∧
    54 + 1 < 56 := by
  decide +kernel

theorem witness_SyndromeIsParityDifference : 24 ≤ (zeroBits 24).length := by decide

/-- V-C12 and V-C11: three AMBIG symbols and two; a zero syndrome and another. -/
theorem witness_CrcClassifies :
    running.params.maxDist < (candWith 0 .zero 3).nAmb.toNat ∧
    (candWith 0 .zero 2).nAmb.toNat ≤ running.params.maxDist ∧
    syndrome running.params.crcPoly ((candWith 0 .zero 2).sym.map (fun x => decide (x = Sym.one)))
      = 0 ∧
    syndrome running.params.crcPoly ((candWith 55 .one 0).sym.map (fun x => decide (x = Sym.one)))
      ≠ 0 := by decide +kernel

/-- Both cases: the search finds the flip of position 50, for the syndrome of the bits and for another operand; with no budget,
and with a budget of 1 for a syndrome of two flips, it gives up. -/
theorem witness_FixAppliesSmallestFlipSet :
    (candWith 0 .zero 0).sym.length = FrameLen.short.slots ∧
    ((zeroBits 56).set 50 true).length = FrameLen.short.slots ∧
    syndrome 0xFFF409 ((zeroBits 56).set 50 true) = 0x20 ∧
    findFlips Params.default (candWith 50 .one 0) ((zeroBits 56).set 50 true) 0x20 = some [50] ∧
    findFlips Params.default (candWith 0 .zero 0) (zeroBits 56) 0x20 = some [50] ∧
    findFlips { Params.default with maxDist := 0 } (candWith 50 .one 0)
      ((zeroBits 56).set 50 true) 0x20 = none ∧
    findFlips { Params.default with maxDist := 1 } (candWith 0 .zero 0) (zeroBits 56) 3 = none := by
  decide +kernel

theorem witness_EmitPlacesBits :
    (zeroBits 56).length = FrameLen.short.slots ∧ (zeroBits 112).length = FrameLen.long.slots ∧
    running.cfg.passAll = false ∧ ParityStatus.clean ≠ .invalid := by decide +kernel

theorem witness_RegisterWriteReadsBack :
    State.reset.run = .idle ∧ running.run ≠ .idle := by decide

/-- The first offset beyond the window; the smallest and the largest misaligned one in it. -/
theorem witness_BadAccessStops :
    16 ≤ (0x10 : Word).toNat ∧ ((0x0F : Word).toNat < 16 ∧ (0x0F : Word).toNat % 4 ≠ 0) ∧
    ((0x01 : Word).toNat < 16 ∧ (0x01 : Word).toNat % 4 ≠ 0) := by decide

/-- V-H5, V-H6, V-H7 and the floor itself: each clause at its boundary. -/
theorem witness_StartChecksAndLatches :
    running.run ≠ .idle ∧ State.reset.run = .idle ∧ (7999999 : Word).toNat < 8000000 ∧
    8000000 ≤ (8000000 : Word).toNat ∧
    ¬((ctrlOfWord 0x61).resamp = true ∨ (8000000 : Word).toNat = 10000000) ∧
    (ctrlOfWord 0x61).rateSel = .msps10 ∧ (ctrlOfWord 0x63).resamp = true := by decide +kernel

theorem witness_StopDiscardsOpenWindow :
    State.reset.run ≠ .running ∧ running.run = .running ∧ running.fr.mode = .idle ∧
    (inWindow 0 80 .short).run = .running ∧ (inWindow 0 80 .short).fr.mode = .active := by
  decide +kernel

theorem witness_NopChangesNothing : (0xFFFFFFFC : Word).extractLsb' 0 2 = 0 := by decide

theorem witness_ThreeResetsAgree : State.reset.run = .idle ∧ check State.reset = .none := by
  decide +kernel

theorem witness_PushIsOneTick :
    running.run = .running ∧ running.streams = Streams.empty := ⟨rfl, rfl⟩

/-- A tick that closes a window and so runs FRAME.ACC and CRC. -/
theorem witness_PushComposesStages :
    (inWindow 55 527 .short).run = .running ∧
    (inWindow 55 527 .short).streams = Streams.empty := ⟨rfl, rfl⟩

theorem witness_PushWithoutComparisonSample :
    running.run = .running ∧ running.streams = Streams.empty ∧ running.pd.mode = .low ∧
    running.pd.hist[1].bad = true ∧ running.fr.mode = .idle := by decide +kernel

theorem witness_StartUpBlindSpot : State.reset.run = .idle ∧ check State.reset = .none := by
  decide +kernel

theorem witness_PortsNotReadyRefuse :
    State.reset.run ≠ .running ∧ State.reset.outq = [] := by decide

theorem witness_PopTakesHead : ∃ f, { running with outq := [f] }.outq = [f] :=
  ⟨{ bits := 0, long := .short, status := .clean, dist := 0, position := 16 }, rfl⟩

end Sys2Proof.Tests
end

/-! SUPPORT. The constants of the rate, the threshold comparison (00_scope R6, R12), and the rules of EDGE, one per
branch of 41_pulse_detector R112 to R115. -/

namespace Sys2Proof.Machine

/-! ## The constants of the rate, written out (00_scope R6) -/

theorem spu_eq_match (r : Rate) : spu r = match r with | .msps8 => 8 | .msps10 => 10 := by
  cases r <;> rfl

theorem half_eq_match (r : Rate) : half r = match r with | .msps8 => 4 | .msps10 => 5 := by
  cases r <;> rfl

theorem runLen_eq_match (r : Rate) : runLen r = match r with | .msps8 => 2 | .msps10 => 3 := by
  cases r <;> rfl

theorem wMin_eq_match (r : Rate) : wMin r = match r with | .msps8 => 3 | .msps10 => 4 := by
  cases r <;> rfl

theorem wMax_eq_match (r : Rate) : wMax r = match r with | .msps8 => 9 | .msps10 => 11 := by
  cases r <;> rfl

/-! ## The threshold comparison -/

theorem exceeds_iff (t : BitVec 4) (x y : Nat) :
    exceeds t x y = true ↔ y < x ∧ y * gain t ≤ 256 * x := by
  simp [exceeds, Nat.mul_comm x]

theorem exceeds_scale (t : BitVec 4) {c : Nat} (hc : 0 < c) (x y : Nat) :
    exceeds t (c * x) (c * y) = exceeds t x y := by
  have hlt : c * y < c * x ↔ y < x := Nat.mul_lt_mul_left hc
  have hle : c * y * gain t ≤ 256 * (c * x) ↔ y * gain t ≤ 256 * x := by
    rw [Nat.mul_assoc, Nat.mul_left_comm 256]
    exact Nat.mul_le_mul_left_iff hc
  rw [Bool.eq_iff_iff, exceeds_iff, exceeds_iff, hlt, hle]

theorem exceeds_asymm (t : BitVec 4) {x y : Nat} (h : exceeds t x y = true) :
    exceeds t y x = false := by
  have hlt := ((exceeds_iff t x y).1 h).1
  simp [exceeds, hlt.le]

@[simp] theorem exceeds_self (t : BitVec 4) (x : Nat) : exceeds t x x = false := by
  simp [exceeds]

/-- Settles O36: each clause is one law of the comparison above; `gain` is the table of factors. -/
theorem comparisonIsScaleFree : Obligations.ComparisonIsScaleFree := by
  intro t c x y hc
  refine ⟨exceeds_iff t x y, exceeds_scale t hc x y, ?_, ?_, exceeds_self t x⟩
  · rintro ⟨hxy, hyx⟩
    simp [exceeds_asymm t hxy] at hyx
  · intro hx
    exact (exceeds_iff t x 0).2 ⟨hx, by simp⟩

/-! ## The tests of the detector -/

theorem rises_iff (t : BitVec 4) (e : EnvSample) (level : Amp) :
    rises t e level = true ↔ e.bad = false ∧ exceeds t e.amp.toNat level.toNat = true := by
  simp [rises, good]

theorem falls_iff (t : BitVec 4) (e : EnvSample) (level : Amp) :
    falls t e level = true ↔ e.bad = false ∧ exceeds t level.toNat e.amp.toNat = true := by
  simp [falls, good]

/-- Two good samples `LAG` apart fall if the earlier one stands `T` dB above the later one. -/
theorem good_and_falls_iff (t : BitVec 4) (e old : EnvSample) :
    (good old && falls t e old.amp) = true ↔
      e.bad = false ∧ old.bad = false ∧ exceeds t old.amp.toNat e.amp.toNat = true := by
  simp [falls, good, and_left_comm]

/-- The running maximum of RCONF (R113), as a number. -/
theorem amp_max (a b : Amp) :
    (if a.toNat < b.toNat then b else a) = BitVec.ofNat 16 (max a.toNat b.toNat) := by
  split
  · rw [Nat.max_eq_right (by omega), BitVec.ofNat_toNat, BitVec.setWidth_eq]
  · rw [Nat.max_eq_left (by omega), BitVec.ofNat_toNat, BitVec.setWidth_eq]

/-! ## EDGE, one rule per branch -/

section EdgeRules

variable {e : EnvSample} {s : State}

theorem edge_low_of_rise (hmode : s.pd.mode = .low) (hold : s.pd.hist[1].bad = false)
    (hrise : e.bad = false ∧ exceeds s.cfg.threshSel e.amp.toNat s.pd.hist[1].amp.toNat = true) :
    edge e s = setPd { s.pd with
      mode := .rconf, rPos := s.pos, rRef := s.pd.hist[1].amp, rCnt := 1, rAmp := e.amp } s := by
  simp [edge, edgeLow, oldSample, good, hmode, hold, (rises_iff _ _ _).2 hrise]

theorem edge_rconf_extend (hmode : s.pd.mode = .rconf)
    (hrise : e.bad = false ∧ exceeds s.cfg.threshSel e.amp.toNat s.pd.rRef.toNat = true)
    (hcnt : (s.pd.rCnt + 1).toNat ≠ runLen s.cfg.rateSel) :
    edge e s = setPd { s.pd with
      rCnt := s.pd.rCnt + 1,
      rAmp := BitVec.ofNat 16 (max s.pd.rAmp.toNat e.amp.toNat) } s := by
  simp only [edge, hmode, edgeRconf, (rises_iff _ _ _).2 hrise, hcnt, amp_max, if_true, if_false]

theorem edge_rconf_confirm (hmode : s.pd.mode = .rconf)
    (hrise : e.bad = false ∧ exceeds s.cfg.threshSel e.amp.toNat s.pd.rRef.toNat = true)
    (hcnt : (s.pd.rCnt + 1).toNat = runLen s.cfg.rateSel) :
    edge e s = setPd { s.pd with
      mode := .high, rCnt := s.pd.rCnt + 1, start := s.pd.rPos,
      rAmp := BitVec.ofNat 16 (max s.pd.rAmp.toNat e.amp.toNat),
      amp := BitVec.ofNat 16 (max s.pd.rAmp.toNat e.amp.toNat) } s := by
  simp only [edge, hmode, edgeRconf, (rises_iff _ _ _).2 hrise, hcnt, amp_max, if_true]

theorem edge_rconf_break (hmode : s.pd.mode = .rconf)
    (hrise : ¬(e.bad = false ∧ exceeds s.cfg.threshSel e.amp.toNat s.pd.rRef.toNat = true)) :
    edge e s = setPd { s.pd with mode := .low }
      (logEvent (.edgeAmbiguity (.rising s.pd.rPos)) s) := by
  simp only [edge, hmode, edgeRconf, mt (rises_iff _ _ _).1 hrise, raise_edgeAmbiguity,
    if_false, Bool.false_eq_true]

theorem edge_high_overlong (hmode : s.pd.mode = .high)
    (hlong : wMax s.cfg.rateSel < (s.pos - s.pd.start).toNat) :
    edge e s = setPd { s.pd with mode := .low }
      (logEvent (.pulseRejected .overlong s.pd.start) s) := by
  simp only [edge, hmode, edgeHigh, hlong, raise_pulseRejected, if_true]

theorem edge_high_fall (hmode : s.pd.mode = .high)
    (hlong : ¬wMax s.cfg.rateSel < (s.pos - s.pd.start).toNat)
    (hfall : e.bad = false ∧ s.pd.hist[1].bad = false ∧
      exceeds s.cfg.threshSel s.pd.hist[1].amp.toNat e.amp.toNat = true) :
    edge e s = setPd { s.pd with
      mode := .fconf, fPos := s.pos, fRef := s.pd.hist[1].amp, fCnt := 1 } s := by
  simp only [edge, hmode, edgeHigh, oldSample, hlong, (good_and_falls_iff _ _ _).2 hfall,
    if_true, if_false]

theorem edge_high_stay (hmode : s.pd.mode = .high)
    (hlong : ¬wMax s.cfg.rateSel < (s.pos - s.pd.start).toNat)
    (hfall : ¬(e.bad = false ∧ s.pd.hist[1].bad = false ∧
      exceeds s.cfg.threshSel s.pd.hist[1].amp.toNat e.amp.toNat = true)) :
    edge e s = s := by
  simp only [edge, hmode, edgeHigh, oldSample, hlong, mt (good_and_falls_iff _ _ _).1 hfall,
    if_false, Bool.false_eq_true]

theorem edge_fconf_extend (hmode : s.pd.mode = .fconf)
    (hfall : e.bad = false ∧ exceeds s.cfg.threshSel s.pd.fRef.toNat e.amp.toNat = true)
    (hcnt : (s.pd.fCnt + 1).toNat ≠ runLen s.cfg.rateSel) :
    edge e s = setPd { s.pd with fCnt := s.pd.fCnt + 1 } s := by
  simp only [edge, hmode, edgeFconf, (falls_iff _ _ _).2 hfall, hcnt, if_true, if_false]

theorem edge_fconf_emit (hmode : s.pd.mode = .fconf)
    (hfall : e.bad = false ∧ exceeds s.cfg.threshSel s.pd.fRef.toNat e.amp.toNat = true)
    (hcnt : (s.pd.fCnt + 1).toNat = runLen s.cfg.rateSel)
    (hwidth : wMin s.cfg.rateSel ≤ (s.pd.fPos - s.pd.start).toNat ∧
      (s.pd.fPos - s.pd.start).toNat ≤ wMax s.cfg.rateSel) :
    edge e s = emitPulse (pulseOf s.pd)
      (setPd { s.pd with fCnt := s.pd.fCnt + 1, mode := .low } s) := by
  simp only [edge, hmode, edgeFconf, (falls_iff _ _ _).2 hfall, hcnt, if_true]
  exact if_pos hwidth

theorem edge_fconf_glitch (hmode : s.pd.mode = .fconf)
    (hfall : e.bad = false ∧ exceeds s.cfg.threshSel s.pd.fRef.toNat e.amp.toNat = true)
    (hcnt : (s.pd.fCnt + 1).toNat = runLen s.cfg.rateSel)
    (hwidth : ¬(wMin s.cfg.rateSel ≤ (s.pd.fPos - s.pd.start).toNat ∧
      (s.pd.fPos - s.pd.start).toNat ≤ wMax s.cfg.rateSel)) :
    edge e s = logEvent (.pulseRejected .glitch s.pd.start)
      (setPd { s.pd with fCnt := s.pd.fCnt + 1, mode := .low } s) := by
  simp only [edge, hmode, edgeFconf, (falls_iff _ _ _).2 hfall, hcnt, if_true]
  exact if_neg hwidth

theorem edge_fconf_break (hmode : s.pd.mode = .fconf)
    (hfall : ¬(e.bad = false ∧ exceeds s.cfg.threshSel s.pd.fRef.toNat e.amp.toNat = true)) :
    edge e s = setPd { s.pd with mode := .high }
      (logEvent (.edgeAmbiguity (.falling s.pd.fPos)) s) := by
  simp only [edge, hmode, edgeFconf, mt (falls_iff _ _ _).1 hfall, raise_edgeAmbiguity,
    if_false, Bool.false_eq_true]

end EdgeRules

theorem exec_edge (e : EnvSample) (s : State) : exec (.edge e) s = .next (edge e s) := rfl

/-- Settles O18, one rule of RCONF for each branch. -/
theorem edgeInRconf : Obligations.EdgeInRconf := by
  intro e s hmode
  have hrun := runLen_eq_match s.cfg.rateSel
  rw [exec_edge]
  congr 1
  split_ifs with hrise hcnt
  · rw [edge_rconf_confirm hmode hrise (hcnt.trans hrun.symm)]; rfl
  · rw [edge_rconf_extend hmode hrise (fun h => hcnt (h.trans hrun))]; rfl
  · rw [edge_rconf_break hmode hrise]; rfl

/-- Settles O19, one rule of HIGH for each branch. -/
theorem edgeInHigh : Obligations.EdgeInHigh := by
  intro e s hmode
  have hmax := wMax_eq_match s.cfg.rateSel
  rw [exec_edge]
  congr 1
  split_ifs with hlong hfall
  · rw [edge_high_overlong hmode (hmax.trans_lt hlong)]; rfl
  · rw [edge_high_fall hmode (fun h => hlong (hmax.symm.trans_lt h)) hfall]; rfl
  · rw [edge_high_stay hmode (fun h => hlong (hmax.symm.trans_lt h)) hfall]

/-- Settles O20, one rule of FCONF for each branch. -/
theorem edgeInFconf : Obligations.EdgeInFconf := by
  intro e s hmode
  have hrun := runLen_eq_match s.cfg.rateSel
  have hmin := wMin_eq_match s.cfg.rateSel
  have hmax := wMax_eq_match s.cfg.rateSel
  rw [exec_edge]
  congr 1
  split_ifs with hfall hcnt hwidth
  · rw [edge_fconf_emit hmode hfall (hcnt.trans hrun.symm)
      ⟨hmin.trans_le hwidth.1, hwidth.2.trans_eq hmax.symm⟩, BitVec.ofNat_toNat]
    rfl
  · rw [edge_fconf_glitch hmode hfall (hcnt.trans hrun.symm)
      (fun h => hwidth ⟨hmin.symm.trans_le h.1, h.2.trans_eq hmax⟩)]
    rfl
  · rw [edge_fconf_extend hmode hfall (fun h => hcnt (h.trans hrun))]; rfl
  · rw [edge_fconf_break hmode hfall]; rfl

end Sys2Proof.Machine

/-! SUPPORT. The rules of SYNC for a pulse that continues a match (42_preamble_sync R141, R144 to R146) and of FRAME.ACC
inside a slot (43_framer R164). -/

namespace Sys2Proof.Machine

/-! ## SYNC -/

section SyncRules

variable {p : Pulse} {s : State}

theorem continues_iff : continues p s = true ↔
    (p.start - expectedRise s).toInt.natAbs ≤ 1 ∧ (p.stop - expectedFall s).toInt.natAbs ≤ 1 := by
  simp [continues, posDist]

theorem newConf_eq : newConf p s = BitVec.ofNat 4 (s.ps.conf.toNat +
    (if p.start = expectedRise s then 1 else 0) + (if p.stop = expectedFall s then 1 else 0)) := by
  rw [BitVec.ofNat_add, BitVec.ofNat_add, BitVec.ofNat_toNat, BitVec.setWidth_eq]
  simp only [newConf, apply_ite (BitVec.ofNat 4)]
  rfl

theorem sync_of_continues (hk : s.ps.k = 1 ∨ s.ps.k = 2) (hcont : continues p s = true) :
    sync p s = setPs { s.ps with k := s.ps.k + 1, conf := newConf p s } s := by
  rcases hk with hk | hk <;> simp [sync, hk, hcont]

theorem sync_of_completes (hk : s.ps.k = 3) (hcont : continues p s = true) :
    sync p s = emitAnchor (anchorOf p s) (setPs { s.ps with k := 0, conf := newConf p s } s) := by
  simp [sync, hk, hcont]

end SyncRules

theorem exec_sync (p : Pulse) (s : State) : exec (.sync p) s = .next (sync p s) := rfl

/-- Settles O24: both edges within `TOL` are `continues`, its confidence is `newConf`. -/
theorem syncContinuation : Obligations.SyncContinuation := by
  intro p s h rise fall conf hstart hstop
  have hhalf : half s.cfg.rateSel = h := half_eq_match _
  have hrise : expectedRise s = rise := by rw [expectedRise, hhalf]
  have hfall : expectedFall s = fall := by rw [expectedFall, hhalf]
  have hcont : continues p s = true := by rw [continues_iff, hrise, hfall]; exact ⟨hstart, hstop⟩
  have hconf : newConf p s = conf := by rw [newConf_eq, hrise, hfall]
  rw [exec_sync]
  constructor
  · intro hk
    rw [sync_of_continues hk hcont, hconf]; rfl
  · intro hk
    rw [sync_of_completes hk hcont, anchorOf, hconf]; rfl

/-! ## FRAME.ACC -/

theorem exec_frameAcc (e : EnvSample) (s : State) :
    exec (.frameAcc e) s = .next (frameAcc e s) := rfl

theorem posReached_iff (n d : Pos) : posReached n d = true ↔ 0 ≤ (n - d).toInt :=
  decide_eq_true_iff

/-- A sample other than the last one of its slot only joins its half-slot. -/
theorem frameAcc_inside_slot {e : EnvSample} {s : State} (hmode : s.fr.mode = .active)
    (hreached : 0 ≤ (s.pos - s.fr.dStart).toInt)
    (hinner : windowIndex s % spu s.fr.rate + 1 ≠ spu s.fr.rate) :
    frameAcc e s =
      setFr (addSample e s.fr (windowIndex s % spu s.fr.rate / half s.fr.rate)) s := by
  simp only [frameAcc, (posReached_iff _ _).2 hreached, hmode, hinner, and_self, if_true,
    if_false]

theorem half_pos (r : Rate) : 0 < half r := by cases r <;> decide

/-- The sum of a half-slot energy and an amplitude, as a number. -/
theorem energy_add (x : Energy) (a : Amp) :
    x + a.setWidth 18 = BitVec.ofNat 18 (x.toNat + a.toNat) := by
  rw [BitVec.ofNat_add, BitVec.ofNat_toNat, BitVec.ofNat_toNat, BitVec.setWidth_eq]

/-- What a sample at place `r` of its slot does to the window, by the half-slot that `r` lies in. -/
theorem addSample_eq (e : EnvSample) (fr : FrState) (r h : Nat) (hpos : 0 < h) :
    addSample e fr (r / h) =
      if r < h then
        (if e.bad = true then { fr with b0 := true }
         else { fr with e0 := BitVec.ofNat 18 (fr.e0.toNat + e.amp.toNat) })
      else
        (if e.bad = true then { fr with b1 := true }
         else { fr with e1 := BitVec.ofNat 18 (fr.e1.toNat + e.amp.toNat) }) := by
  have hfirst : r / h = 0 ↔ r < h := Nat.div_eq_zero_iff_lt hpos
  cases hbad : e.bad <;> simp [addSample, good, hfirst, hbad, energy_add]

/-- Settles O28: the place in the slot decides the half-slot that the sample joins. -/
theorem frameAccInsideSlot : Obligations.FrameAccInsideSlot := by
  intro e s hmode hreached slot r hinner
  have hslot : spu s.fr.rate = slot := spu_eq_match _
  have hplace : windowIndex s % spu s.fr.rate = r := by rw [hslot]; rfl
  rw [exec_frameAcc, frameAcc_inside_slot hmode hreached (by rwa [hplace, hslot]), hplace,
    addSample_eq _ _ _ _ (half_pos _), half_eq_match]
  rfl

end Sys2Proof.Machine

/-! SUPPORT. An ideal pulse through the detector (41_pulse_detector R119): the exact state after each tick of the pulse and
of the level after it, in the phases RCONF, HIGH and FCONF. -/

namespace Sys2Proof.Machine

/-- A good envelope sample of amplitude `a`. -/
abbrev goodSample (a : Amp) : EnvSample := { amp := a, bad := false }

/-! ## Ticks of the detector alone -/

theorem detect_singleton (e : EnvSample) (s : State) :
    detect [e] s = endTick e (edge e s) := rfl

theorem detect_append (es es' : List EnvSample) (s : State) :
    detect (es ++ es') s = detect es' (detect es s) := by
  simp [detect, List.foldl_append]

theorem detect_replicate_succ (k : Nat) (e : EnvSample) (s : State) :
    detect (List.replicate (k + 1) e) s =
      endTick e (edge e (detect (List.replicate k e) s)) := by
  rw [List.replicate_succ', detect_append, detect_singleton]

/-- `s` after `k` ticks that changed only the detector's own state, to `pd`. -/
def ticked (k : Nat) (pd : PdState) (s : State) : State :=
  { s with pd := pd, pos := s.pos + BitVec.ofNat 64 k }

@[simp] theorem ticked_pd (k : Nat) (pd : PdState) (s : State) : (ticked k pd s).pd = pd := rfl

theorem endTick_ticked (e : EnvSample) (k : Nat) (pd : PdState) (s : State) :
    endTick e (ticked k pd s) = ticked (k + 1) { pd with hist := #v[e, pd.hist[0]] } s := by
  simp [endTick, ticked, BitVec.ofNat_add, BitVec.add_assoc]

theorem endTick_emitPulse (e : EnvSample) (p : Pulse) (s : State) :
    endTick e (emitPulse p s) = emitPulse p (endTick e s) := rfl

@[simp] theorem setPd_ticked (x : PdState) (k : Nat) (pd : PdState) (s : State) :
    setPd x (ticked k pd s) = ticked k x s := rfl

/-! ## The phases -/

/-- RCONF, `k` samples into the pulse of amplitude `a` over level `n` that begins at `s.pos`. -/
def risingPd (a n : Amp) (s : State) (k : Nat) : PdState :=
  { s.pd with
    mode := .rconf, rPos := s.pos, rRef := n, rCnt := BitVec.ofNat 2 k, rAmp := a,
    hist := #v[goodSample a, goodSample (if k = 1 then n else a)] }

/-- HIGH, inside that pulse. -/
def pulsePd (a n : Amp) (s : State) : PdState :=
  { risingPd a n s (runLen s.cfg.rateSel) with
    mode := .high, start := s.pos, amp := a, hist := #v[goodSample a, goodSample a] }

/-- FCONF, `k` samples after the end of that pulse, of width `w`. -/
def fallingPd (a n : Amp) (s : State) (w k : Nat) : PdState :=
  { pulsePd a n s with
    mode := .fconf, fPos := s.pos + BitVec.ofNat 64 w, fRef := a, fCnt := BitVec.ofNat 2 k,
    hist := #v[goodSample n, goodSample (if k = 1 then a else n)] }

/-- The Pulse that the detector makes of it. -/
def idealPulse (a : Amp) (w : Nat) (s : State) : Pulse where
  start := s.pos
  stop := s.pos + BitVec.ofNat 64 w
  width := BitVec.ofNat 4 w
  amp := a
  famp := a

theorem runLen_bounds (r : Rate) : 2 ≤ runLen r ∧ runLen r ≤ 3 := by cases r <;> decide

theorem runLen_le_wMin (r : Rate) : runLen r ≤ wMin r := by cases r <;> decide

theorem wMax_le (r : Rate) : wMax r ≤ 11 := by cases r <;> decide

/-- A count up to `RUN` does not wrap. -/
theorem count_toNat {r : Rate} {k : Nat} (hk : k < runLen r) :
    (BitVec.ofNat 2 k + 1).toNat = k + 1 := by
  have hsum : BitVec.ofNat 2 k + 1 = BitVec.ofNat 2 (k + 1) := (BitVec.ofNat_add k 1).symm
  have := (runLen_bounds r).2
  rw [hsum, BitVec.toNat_ofNat]
  omega

theorem place_eq (p : Pos) (k : Nat) : p + BitVec.ofNat 64 k - p = BitVec.ofNat 64 k := by
  rw [BitVec.add_comm, BitVec.add_sub_cancel]

/-- The distance of a sample of the pulse from its start does not wrap. -/
theorem place_toNat (p : Pos) {r : Rate} {k : Nat} (hk : k ≤ wMax r) :
    (p + BitVec.ofNat 64 k - p).toNat = k := by
  have := wMax_le r
  rw [place_eq, BitVec.toNat_ofNat]
  omega

theorem pulseOf_fallingPd (a n : Amp) (s : State) (w k : Nat) :
    pulseOf (fallingPd a n s w k) = idealPulse a w s := by
  have hwidth : (s.pos + BitVec.ofNat 64 w - s.pos).setWidth 4 = BitVec.ofNat 4 w := by
    rw [place_eq, BitVec.setWidth_ofNat_of_le (by decide)]
  simp only [pulseOf, fallingPd, pulsePd, idealPulse, hwidth]

section IdealPulse

variable {a n : Amp} {s : State} {w k : Nat}

/-! ## The rise -/

theorem tick_rise_first (hmode : s.pd.mode = .low)
    (hhist : s.pd.hist = #v[goodSample n, goodSample n])
    (hrise : exceeds s.cfg.threshSel a.toNat n.toNat = true) :
    endTick (goodSample a) (edge (goodSample a) s) = ticked 1 (risingPd a n s 1) s := by
  have hold : s.pd.hist[1] = goodSample n := by simp [hhist]
  rw [edge_low_of_rise hmode (by rw [hold]) (by rw [hold]; exact ⟨rfl, hrise⟩), hold]
  simp [endTick, ticked, setPd, risingPd, hhist]

theorem tick_rise (hrise : exceeds s.cfg.threshSel a.toNat n.toNat = true) (hpos : 1 ≤ k)
    (hk : k + 1 < runLen s.cfg.rateSel) :
    endTick (goodSample a) (edge (goodSample a) (ticked k (risingPd a n s k) s)) =
      ticked (k + 1) (risingPd a n s (k + 1)) s := by
  have hcnt := count_toNat (Nat.lt_of_succ_lt hk)
  rw [edge_rconf_extend rfl ⟨rfl, hrise⟩ (hcnt.trans_ne hk.ne), setPd_ticked, endTick_ticked]
  simp [risingPd, BitVec.ofNat_add, Nat.ne_of_gt hpos]

theorem tick_rise_last (hrise : exceeds s.cfg.threshSel a.toNat n.toNat = true)
    (hk : k + 1 = runLen s.cfg.rateSel) :
    endTick (goodSample a) (edge (goodSample a) (ticked k (risingPd a n s k) s)) =
      ticked (k + 1) (pulsePd a n s) s := by
  have hcnt := count_toNat (Nat.lt_of_succ_le hk.le)
  rw [edge_rconf_confirm rfl ⟨rfl, hrise⟩ (hcnt.trans hk), setPd_ticked, endTick_ticked]
  simp [pulsePd, risingPd, BitVec.ofNat_add, ← hk]

/-- Every tick of the pulse before its `RUN`-th sample ends in RCONF. -/
theorem detect_rise (hmode : s.pd.mode = .low)
    (hhist : s.pd.hist = #v[goodSample n, goodSample n])
    (hrise : exceeds s.cfg.threshSel a.toNat n.toNat = true) (hpos : 1 ≤ k)
    (hk : k < runLen s.cfg.rateSel) :
    detect (List.replicate k (goodSample a)) s = ticked k (risingPd a n s k) s := by
  induction k, hpos using Nat.le_induction with
  | base => exact tick_rise_first hmode hhist hrise
  | succ k hpos ih =>
    rw [detect_replicate_succ, ih (Nat.lt_of_succ_lt hk), tick_rise hrise hpos hk]

/-! ## The plateau -/

/-- In HIGH a sample of the pulse's own amplitude, at a place within `W_MAX`, changes nothing. -/
theorem tick_pulse (hk : k ≤ wMax s.cfg.rateSel) :
    endTick (goodSample a) (edge (goodSample a) (ticked k (pulsePd a n s) s)) =
      ticked (k + 1) (pulsePd a n s) s := by
  have hplace := place_toNat s.pos hk
  rw [edge_high_stay rfl (hplace.trans_le hk).not_gt (by simp [pulsePd]), endTick_ticked]
  rfl

/-- From its `RUN`-th sample on, every tick of the pulse ends in HIGH. -/
theorem detect_pulse (hmode : s.pd.mode = .low)
    (hhist : s.pd.hist = #v[goodSample n, goodSample n])
    (hrise : exceeds s.cfg.threshSel a.toNat n.toNat = true) (hrun : runLen s.cfg.rateSel ≤ k)
    (hk : k ≤ wMax s.cfg.rateSel) :
    detect (List.replicate k (goodSample a)) s = ticked k (pulsePd a n s) s := by
  induction k, hrun using Nat.le_induction with
  | base =>
    obtain ⟨m, hm⟩ : ∃ m, runLen s.cfg.rateSel = m + 2 :=
      Nat.exists_eq_add_of_le' (runLen_bounds s.cfg.rateSel).1
    rw [hm, detect_replicate_succ, detect_rise hmode hhist hrise (by omega) (by omega),
      tick_rise_last hrise hm.symm]
  | succ k hrun ih =>
    rw [detect_replicate_succ, ih (Nat.le_of_succ_le hk), tick_pulse (Nat.le_of_succ_le hk)]

/-! ## The fall -/

theorem tick_fall_first (hrise : exceeds s.cfg.threshSel a.toNat n.toNat = true)
    (hw : w ≤ wMax s.cfg.rateSel) :
    endTick (goodSample n) (edge (goodSample n) (ticked w (pulsePd a n s) s)) =
      ticked (w + 1) (fallingPd a n s w 1) s := by
  have hplace := place_toNat s.pos hw
  rw [edge_high_fall rfl (hplace.trans_le hw).not_gt ⟨rfl, rfl, hrise⟩, setPd_ticked,
    endTick_ticked]
  rfl

theorem tick_fall (hrise : exceeds s.cfg.threshSel a.toNat n.toNat = true) (hpos : 1 ≤ k)
    (hk : k + 1 < runLen s.cfg.rateSel) :
    endTick (goodSample n) (edge (goodSample n) (ticked (w + k) (fallingPd a n s w k) s)) =
      ticked (w + (k + 1)) (fallingPd a n s w (k + 1)) s := by
  have hcnt := count_toNat (Nat.lt_of_succ_lt hk)
  rw [edge_fconf_extend rfl ⟨rfl, hrise⟩ (hcnt.trans_ne hk.ne), setPd_ticked, endTick_ticked]
  simp [fallingPd, BitVec.ofNat_add, Nat.ne_of_gt hpos, Nat.add_assoc]

theorem tick_fall_last (hrise : exceeds s.cfg.threshSel a.toNat n.toNat = true) (hpos : 1 ≤ k)
    (hk : k + 1 = runLen s.cfg.rateSel) (hmin : wMin s.cfg.rateSel ≤ w)
    (hmax : w ≤ wMax s.cfg.rateSel) :
    endTick (goodSample n) (edge (goodSample n) (ticked (w + k) (fallingPd a n s w k) s)) =
      emitPulse (idealPulse a w s)
        (ticked (w + (k + 1)) { fallingPd a n s w (k + 1) with mode := .low } s) := by
  have hcnt := count_toNat (Nat.lt_of_succ_le hk.le)
  have hplace := place_toNat s.pos hmax
  rw [edge_fconf_emit (e := goodSample n) (s := ticked (w + k) (fallingPd a n s w k) s) rfl
    ⟨rfl, hrise⟩ (hcnt.trans hk) ⟨hmin.trans_eq hplace.symm, hplace.trans_le hmax⟩, setPd_ticked,
    endTick_emitPulse, endTick_ticked, ticked_pd, pulseOf_fallingPd]
  simp [fallingPd, BitVec.ofNat_add, Nat.ne_of_gt hpos, Nat.add_assoc]

/-- Every tick after the pulse before the `RUN`-th ends in FCONF. -/
theorem detect_fall (hrise : exceeds s.cfg.threshSel a.toNat n.toNat = true)
    (hw : w ≤ wMax s.cfg.rateSel) (hpos : 1 ≤ k) (hk : k < runLen s.cfg.rateSel) :
    detect (List.replicate k (goodSample n)) (ticked w (pulsePd a n s) s) =
      ticked (w + k) (fallingPd a n s w k) s := by
  induction k, hpos using Nat.le_induction with
  | base => exact tick_fall_first hrise hw
  | succ k hpos ih =>
    rw [detect_replicate_succ, ih (Nat.lt_of_succ_lt hk), tick_fall hrise hpos hk]

/-- The `RUN`-th tick after the pulse emits it. -/
theorem detect_emit (hrise : exceeds s.cfg.threshSel a.toNat n.toNat = true)
    (hmin : wMin s.cfg.rateSel ≤ w) (hmax : w ≤ wMax s.cfg.rateSel) :
    detect (List.replicate (runLen s.cfg.rateSel) (goodSample n)) (ticked w (pulsePd a n s) s) =
      emitPulse (idealPulse a w s) (ticked (w + runLen s.cfg.rateSel)
        { fallingPd a n s w (runLen s.cfg.rateSel) with mode := .low } s) := by
  obtain ⟨m, hm⟩ : ∃ m, runLen s.cfg.rateSel = m + 2 :=
    Nat.exists_eq_add_of_le' (runLen_bounds s.cfg.rateSel).1
  rw [hm, detect_replicate_succ, detect_fall hrise hmax (by omega) (by omega),
    tick_fall_last hrise (by omega) hm.symm hmin hmax]

end IdealPulse

/-- Settles O21: the phases RCONF, HIGH and FCONF in turn, each by induction on its ticks. -/
theorem idealPulseIsDetected : Obligations.IdealPulseIsDetected := by
  intro a n w s run hmode hhist hrise hmin hmax
  have hrun : runLen s.cfg.rateSel = run := runLen_eq_match _
  have hmin : wMin s.cfg.rateSel ≤ w := (wMin_eq_match _).trans_le hmin
  have hmax : w ≤ wMax s.cfg.rateSel := hmax.trans_eq (wMax_eq_match _).symm
  have hlen : runLen s.cfg.rateSel ≤ w := (runLen_le_wMin _).trans hmin
  rw [← hrun, detect_append, detect_append, detect_pulse hmode hhist hrise hlen hmax,
    detect_pulse hmode hhist hrise le_rfl (hlen.trans hmax), detect_emit hrise hmin hmax,
    detect_singleton, detect_singleton, tick_rise_first hmode hhist hrise,
    tick_fall_first hrise hmax]
  exact ⟨rfl, rfl, rfl, rfl, rfl, rfl, rfl⟩

end Sys2Proof.Machine

/-! SUPPORT. The control part of the state (the run state, the registers, the latched configuration, the parameters and the
position counter: 10_state R21 to R27) through every operation: the stages and the tick leave it alone but for `pos`, so
what can move it is one short list. -/

namespace Sys2Proof.Machine

/-! ## What leaves the control part alone -/

/-- `t` has the run state, error code, registers, latched configuration, parameters and position of `s`. -/
structure SameControl (s t : State) : Prop where
  run : t.run = s.run
  err : t.err = s.err
  ctrl : t.ctrl = s.ctrl
  srcRate : t.srcRate = s.srcRate
  cfg : t.cfg = s.cfg
  params : t.params = s.params
  pos : t.pos = s.pos

theorem SameControl.refl (s : State) : SameControl s s := ⟨rfl, rfl, rfl, rfl, rfl, rfl, rfl⟩

theorem SameControl.trans {s t u : State} (h : SameControl s t) (k : SameControl t u) :
    SameControl s u :=
  ⟨k.run.trans h.run, k.err.trans h.err, k.ctrl.trans h.ctrl, k.srcRate.trans h.srcRate,
    k.cfg.trans h.cfg, k.params.trans h.params, k.pos.trans h.pos⟩

theorem setStreams_sameControl (x : Streams) (s : State) : SameControl s (setStreams x s) :=
  ⟨rfl, rfl, rfl, rfl, rfl, rfl, rfl⟩

theorem edge_sameControl (e : EnvSample) (s : State) : SameControl s (edge e s) := by
  obtain ⟨pd, new, evs, h, -⟩ := edge_writes e s
  rw [h]; exact ⟨rfl, rfl, rfl, rfl, rfl, rfl, rfl⟩

theorem sync_sameControl (p : Pulse) (s : State) : SameControl s (sync p s) := by
  obtain ⟨ps, new, evs, h, -⟩ := sync_writes p s
  rw [h]; exact ⟨rfl, rfl, rfl, rfl, rfl, rfl, rfl⟩

theorem WritesWindow.sameControl {s t : State} (h : WritesWindow s t) : SameControl s t := by
  obtain ⟨fr, cand, str, evs, rfl⟩ := h
  exact ⟨rfl, rfl, rfl, rfl, rfl, rfl, rfl⟩

theorem withOutput_sameControl (new : List DecodedFrame) (evs : List Event) (s : State) :
    SameControl s (withOutput new evs s) := ⟨rfl, rfl, rfl, rfl, rfl, rfl, rfl⟩

theorem fix_sameControl (c : Candidate) (v : List Bool) (syn : Syndrome) (s : State) :
    SameControl s (fix c v syn s) := by
  obtain ⟨new, evs, h, -⟩ := fix_writes c v syn s
  rw [h]; exact withOutput_sameControl new evs s

theorem crc_sameControl (c : Candidate) (s : State) : SameControl s (crc c s) := by
  obtain ⟨new, evs, h, -⟩ := crc_writes c s
  rw [h]; exact withOutput_sameControl new evs s

theorem emit_sameControl (a : Anchor) (len : FrameLen) (w : List Bool) (st : ParityStatus)
    (dist : BitVec 2) (s : State) : SameControl s (emit a len w st dist s) := by
  obtain ⟨-, -, h⟩ | ⟨-, h⟩ := emit_writes a len w st dist s
  · rw [h]; exact .refl s
  · rw [h]; exact withOutput_sameControl _ _ s

/-! ## The tick -/

theorem takePulse_sameControl {f : Pulse → State → State}
    (hf : ∀ p s, SameControl s (f p s)) (s : State) : SameControl s (takePulse f s) := by
  unfold takePulse
  split
  · exact .refl s
  · exact (setStreams_sameControl _ s).trans (hf _ _)

theorem takeAnchor_sameControl {f : Anchor → State → State}
    (hf : ∀ a s, SameControl s (f a s)) (s : State) : SameControl s (takeAnchor f s) := by
  unfold takeAnchor
  split
  · exact .refl s
  · exact (setStreams_sameControl _ s).trans (hf _ _)

theorem takeCandidate_sameControl {f : Candidate → State → State}
    (hf : ∀ c s, SameControl s (f c s)) (s : State) : SameControl s (takeCandidate f s) := by
  unfold takeCandidate
  split
  · exact .refl s
  · exact (setStreams_sameControl _ s).trans (hf _ _)

/-- The stages of a tick leave the control part alone; what moves `pos` is the end of the tick. -/
theorem tickStages_control (e : EnvSample) (s : State) :
    ∃ u, SameControl s u ∧ tickStages e s = endTick e u := by
  refine ⟨_, ?_, rfl⟩
  have h2 := edge_sameControl e s
  have h3 := h2.trans (takePulse_sameControl sync_sameControl _)
  have h4 := h3.trans
    (takeAnchor_sameControl (fun a s => (frameOpen_writes a s).sameControl) _)
  have h5 := h4.trans (frameAcc_writes e _).sameControl
  exact h5.trans (takeCandidate_sameControl crc_sameControl _)

theorem tick_control (smp : Sample) (s : State) :
    ∃ e u, SameControl s u ∧ tick smp s = endTick e u := by
  have hmag : SameControl s (mag smp s) := setStreams_sameControl _ s
  unfold tick takeEnvelope
  split
  · rename_i h
    simp [mag] at h
  · rename_i e l _
    obtain ⟨u, hu, h⟩ := tickStages_control e
      (setStreams { (mag smp s).streams with envelope := l } (mag smp s))
    exact ⟨e, u, (hmag.trans (setStreams_sameControl _ _)).trans hu, h⟩

/-! ## What an operation can do to the control part -/

/-- The ways in which an operation moves the control part of `s`: all that 10_state R21 to R27 list. -/
inductive ControlMove (s : State) : Instr → State → Prop
  /-- A stage operation, RDREG, NOP, POP: not at all. -/
  | keep {i : Instr} {t : State} (hi : ∀ smp, i ≠ .push smp) (same : SameControl s t) :
      ControlMove s i t
  /-- PUSH: the end of the tick counts `pos`. -/
  | tick (smp : Sample) (e : EnvSample) {u : State} (same : SameControl s u) :
      ControlMove s (.push smp) (endTick e u)
  | write (off v : Word) : ControlMove s (.wrcfg off v) (writeConfig off v s)
  | start (ign : BitVec 30) : ControlMove s (.start ign) (startStream s)
  | stop (ign : BitVec 30) : ControlMove s (.stop ign) (stopStream s)
  | clear (ign : BitVec 30) : ControlMove s (.clear ign) (clearCore s)
  | reset : ControlMove s .reset (hardReset s)

theorem execWrcfg_next {off v : Word} {s t : State} (h : execWrcfg off v s = .next t) :
    t = writeConfig off v s := by
  unfold execWrcfg at h
  split at h
  · cases h; rfl
  · cases h

theorem execRdreg_next {off : Word} {s t : State} (h : execRdreg off s = .next t) :
    ∃ v, t = setHost { s.host with rdData := v } s := by
  unfold execRdreg at h
  split at h
  · cases h; exact ⟨_, rfl⟩
  · cases h

theorem execPush_next {smp : Sample} {s t : State} (h : execPush smp s = .next t) :
    s.run = .running ∧ t = Machine.tick smp s := by
  unfold execPush at h
  split at h
  · rename_i hready
    cases h; exact ⟨by simpa [sReady] using hready, rfl⟩
  · cases h

theorem execPop_next {s t : State} (h : execPop s = .next t) :
    ∃ f l, s.outq = f :: l ∧
      t = { s with outq := l, host := { s.host with taken := s.host.taken ++ [f] } } := by
  unfold execPop at h
  split at h
  · cases h
  · rename_i f l hq
    cases h; exact ⟨f, l, hq, rfl⟩

theorem exec_controlMove {i : Instr} {s t : State} (h : exec i s = .next t) :
    ControlMove s i t := by
  cases i with
  | mag smp => cases h; exact .keep nofun (setStreams_sameControl _ s)
  | edge e => cases h; exact .keep nofun (edge_sameControl e s)
  | sync p => cases h; exact .keep nofun (sync_sameControl p s)
  | frameOpen a => cases h; exact .keep nofun (frameOpen_writes a s).sameControl
  | frameAcc e => cases h; exact .keep nofun (frameAcc_writes e s).sameControl
  | frameLen => cases h; exact .keep nofun (frameLen_writes s).sameControl
  | ppm o => cases h; exact .keep nofun (ppm_writes o s).sameControl
  | crc c => cases h; exact .keep nofun (crc_sameControl c s)
  | fix c v syn => cases h; exact .keep nofun (fix_sameControl c v syn s)
  | emit a len w st dist => cases h; exact .keep nofun (emit_sameControl a len w st dist s)
  | fmtShort low => cases h; exact .keep nofun (setFr_writes _ s).sameControl
  | fmtLong low => cases h; exact .keep nofun (setFr_writes _ s).sameControl
  | nop ign => cases h; exact .keep nofun (.refl s)
  | rdreg off =>
    obtain ⟨v, rfl⟩ := execRdreg_next h
    exact .keep nofun ⟨rfl, rfl, rfl, rfl, rfl, rfl, rfl⟩
  | pop =>
    obtain ⟨f, l, -, rfl⟩ := execPop_next h
    exact .keep nofun ⟨rfl, rfl, rfl, rfl, rfl, rfl, rfl⟩
  | push smp =>
    obtain ⟨-, rfl⟩ := execPush_next h
    obtain ⟨e, u, hu, htick⟩ := tick_control smp s
    rw [htick]
    exact .tick smp e hu
  | wrcfg off v => cases execWrcfg_next h; exact .write off v
  | start ign => cases h; exact .start ign
  | stop ign => cases h; exact .stop ign
  | clear ign => cases h; exact .clear ign
  | reset => cases h; exact .reset

/-! ## The commands -/

/-- START is ignored outside IDLE, accepted if the check passes, and else enters FAULT (47_host_commands R223). -/
theorem startStream_cases (s : State) :
    (s.run ≠ .idle ∧ startStream s = s) ∨
    (s.run = .idle ∧ check s = .none ∧
      startStream s = { initPipeline s with cfg := latched s.ctrl, err := .none, run := .running }) ∨
    (s.run = .idle ∧ check s ≠ .none ∧
      startStream s = logEvent (.configurationError (check s))
        { s with run := .fault, err := check s }) := by
  unfold startStream
  split
  · rename_i hidle
    split
    · exact .inr (.inl ⟨hidle, ‹_›, rfl⟩)
    · exact .inr (.inr ⟨hidle, ‹_›, rfl⟩)
  · exact .inl ⟨‹_›, rfl⟩

theorem truncateStream_sameControl (s : State) : SameControl s (truncateStream s) := by
  obtain ⟨-, h⟩ | ⟨-, -, h⟩ := truncateStream_cases s
  · rw [h]; exact .refl s
  · rw [h]; exact ⟨rfl, rfl, rfl, rfl, rfl, rfl, rfl⟩

/-- STOP is ignored outside RUNNING; else it ends the stream and returns to IDLE (47_host_commands R225). -/
theorem stopStream_cases (s : State) :
    (s.run ≠ .running ∧ stopStream s = s) ∨
    (s.run = .running ∧ stopStream s = { truncateStream s with run := .idle }) := by
  unfold stopStream
  split
  · exact .inr ⟨‹_›, rfl⟩
  · exact .inl ⟨‹_›, rfl⟩

/-- CLEAR returns to IDLE with no error code, position 0 and the configuration kept (47_host_commands R227). -/
theorem clearCore_control (s : State) :
    (clearCore s).run = .idle ∧ (clearCore s).err = .none ∧ (clearCore s).pos = 0 ∧
    (clearCore s).ctrl = s.ctrl ∧ (clearCore s).srcRate = s.srcRate ∧
    (clearCore s).cfg = s.cfg ∧ (clearCore s).params = s.params :=
  have h := truncateStream_sameControl s
  ⟨rfl, rfl, rfl, h.ctrl, h.srcRate, h.cfg, h.params⟩

/-! ## The statements -/

/-- Settles O12, by the ways in which an operation moves the control part. -/
theorem configurationIsLocked : Obligations.ConfigurationIsLocked := by
  intro i s t h
  cases exec_controlMove h with
  | keep _ same => simp [same.ctrl, same.srcRate, same.cfg, same.params]
  | tick smp e same => simp [same.ctrl, same.srcRate, same.cfg, same.params]
  | write off v =>
    obtain hw | ⟨hidle, -, hw⟩ | ⟨hidle, -, hw⟩ := writeConfig_cases off v s <;> simp [*]
  | start ign =>
    obtain ⟨-, hs⟩ | ⟨hidle, -, hs⟩ | ⟨hidle, -, hs⟩ := startStream_cases s <;> simp [*]
  | stop ign =>
    have same := truncateStream_sameControl s
    obtain ⟨-, hs⟩ | ⟨-, hs⟩ := stopStream_cases s
    · simp [hs]
    · simp [hs, same.ctrl, same.srcRate, same.cfg, same.params]
  | clear ign =>
    obtain ⟨-, -, -, hctrl, hrate, hcfg, hparams⟩ := clearCore_control s
    simp [hctrl, hrate, hcfg, hparams]
  | reset => exact ⟨fun _ => .inr rfl, fun _ => .inr rfl, rfl⟩

/-- Settles O13, by the ways in which an operation moves the control part. -/
theorem runStateTransitions : Obligations.RunStateTransitions := by
  intro i s t h
  cases exec_controlMove h with
  | keep _ same => simp [same.run, same.err]
  | tick smp e same => simp [same.run, same.err]
  | write off v =>
    obtain hw | ⟨-, -, hw⟩ | ⟨-, -, hw⟩ := writeConfig_cases off v s <;> simp [hw]
  | start ign =>
    obtain ⟨-, hs⟩ | ⟨hidle, -, hs⟩ | ⟨hidle, -, hs⟩ := startStream_cases s <;> simp [*]
  | stop ign =>
    have same := truncateStream_sameControl s
    obtain ⟨-, hs⟩ | ⟨hrun, hs⟩ := stopStream_cases s
    · simp [hs]
    · simp [hs, hrun, same.err]
  | clear ign =>
    obtain ⟨hrun, -⟩ := clearCore_control s
    simp [hrun]
  | reset => exact ⟨fun _ => .inr (.inr ⟨rfl, .inl rfl⟩), fun _ => .inl rfl⟩

/-- Settles O14, by the ways in which an operation moves the control part. -/
theorem positionCounterMoves : Obligations.PositionCounterMoves := by
  intro i s t h
  cases exec_controlMove h with
  | keep hi same => exact .inr ⟨hi, .inl same.pos⟩
  | tick smp e same => exact .inl ⟨smp, rfl, by simp [same.pos]⟩
  | write off v =>
    obtain hw | ⟨-, -, hw⟩ | ⟨-, -, hw⟩ := writeConfig_cases off v s <;>
      exact .inr ⟨nofun, .inl (by rw [hw])⟩
  | start ign =>
    refine .inr ⟨nofun, ?_⟩
    obtain ⟨-, hs⟩ | ⟨-, -, hs⟩ | ⟨-, -, hs⟩ := startStream_cases s
    · exact .inl (by rw [hs])
    · exact .inr ⟨by rw [hs]; rfl, .inr ⟨ign, .inl rfl⟩⟩
    · exact .inl (by rw [hs]; rfl)
  | stop ign =>
    refine .inr ⟨nofun, .inl ?_⟩
    obtain ⟨-, hs⟩ | ⟨-, hs⟩ := stopStream_cases s
    · rw [hs]
    · rw [hs]; exact (truncateStream_sameControl s).pos
  | clear ign =>
    obtain ⟨-, -, hpos, -⟩ := clearCore_control s
    exact .inr ⟨nofun, .inr ⟨hpos, .inr ⟨ign, .inr rfl⟩⟩⟩
  | reset => exact .inr ⟨nofun, .inr ⟨rfl, .inl rfl⟩⟩

end Sys2Proof.Machine

/-! SUPPORT. The state after hard reset (10_state R36, 70_reset_and_hazards R270): it has both invariants, and RESET gives
it back but for the parameters and the host's side. -/

namespace Sys2Proof.Machine

/-! ## The invariants of a machine at rest -/

/-- With the detector in LOW, the matcher SEARCHING and no window open, the clauses of `PipeInv` about the stages hold,
whatever the run state. -/
theorem pipeInv_of_initial {s : State} (hlegal : paramsLegal s.params = true)
    (hbench : s.host.bench = []) (hstreams : s.streams = Streams.empty)
    (hpd : s.pd.mode = .low) (hps : s.ps.k = 0) (hfr : s.fr.mode = .idle) : PipeInv s := by
  refine ⟨hlegal, hbench, hstreams, ⟨?_, ?_⟩, ?_, ?_, ?_⟩
  · intro h; simp [hpd] at h
  · intro h; simp [hpd] at h
  · intro h; exact absurd hps h
  · intro h; simp [hfr] at h
  · intro h; simp [hfr] at h

theorem paramsLegal_default : paramsLegal Params.default = true := by decide

theorem reset_coreInv : CoreInv State.reset :=
  ⟨paramsLegal_default, ⟨nofun, fun h => absurd rfl h⟩, nofun, nofun, nofun⟩

theorem reset_pipeInv : PipeInv State.reset :=
  pipeInv_of_initial paramsLegal_default rfl rfl rfl rfl rfl

/-- Settles O7: nothing waits anywhere, and every stage is at its initial value. -/
theorem resetHasInvariants : Obligations.ResetHasInvariants := ⟨reset_coreInv, reset_pipeInv⟩

/-! ## RESET -/

theorem truncateStream_host (s : State) :
    (truncateStream s).host = { s.host with log :=
      if s.run = .running ∧ s.fr.mode = .active then
        s.host.log ++ [.streamTruncation s.fr.anchor.position]
      else s.host.log } := by
  obtain ⟨hopen, h⟩ | ⟨hrun, hactive, h⟩ := truncateStream_cases s
  · rw [h, if_neg hopen]
  · rw [h, if_pos ⟨hrun, hactive⟩]

/-- Settles O44: the host's side is the one that the end of the stream leaves; every other field is read off
`State.reset`. -/
theorem resetRestoresEveryField : Obligations.ResetRestoresEveryField := by
  intro s
  refine ⟨?_, rfl, rfl, rfl, rfl, rfl, rfl, rfl, rfl, rfl, rfl, rfl, rfl, rfl, rfl, rfl, rfl, rfl,
    rfl, rfl, rfl, rfl⟩
  rw [← truncateStream_host]
  rfl

end Sys2Proof.Machine

/-! SUPPORT. What EDGE and SYNC keep inside a tick (10_state R28, R29): a confirming run ends with the latest sample, so a
Pulse ends `RUN` samples before the next position; and the confidence of a match stays within two per pulse, so an Anchor
is complete less than a half-slot after its window begins (41_pulse_detector R115, 42_preamble_sync R141, R146). -/

namespace Sys2Proof.Machine

/-! ## Confirming runs of the detector -/

/-- `c` samples confirm the edge at `p`, fewer than `RUN`, the last one just before position `n`. -/
def Confirming (r : Rate) (n p : Pos) (c : BitVec 2) : Prop :=
  1 ≤ c.toNat ∧ c.toNat < runLen r ∧ n = p + c.setWidth 64

theorem detectorInv_iff (s : State) :
    DetectorInv s ↔
      (s.pd.mode = .rconf → Confirming s.cfg.rateSel s.pos s.pd.rPos s.pd.rCnt) ∧
      (s.pd.mode = .fconf → Confirming s.cfg.rateSel s.pos s.pd.fPos s.pd.fCnt) := Iff.rfl

theorem confirming_first (r : Rate) (p : Pos) : Confirming r (p + 1) p 1 :=
  ⟨by decide, (runLen_bounds r).1, rfl⟩

/-- A run shorter than `RUN` counts one more sample without overflow. -/
theorem count_succ {r : Rate} {c : BitVec 2} (hc : c.toNat < runLen r) :
    (c + 1).toNat = c.toNat + 1 ∧ (c + 1).setWidth 64 = c.setWidth 64 + (1 : Pos) := by
  have hrun := (runLen_bounds r).2
  constructor <;> bv_omega

theorem Confirming.next {r : Rate} {n p : Pos} {c : BitVec 2} (h : Confirming r n p c)
    (hc : (c + 1).toNat ≠ runLen r) : Confirming r (n + 1) p (c + 1) := by
  obtain ⟨hpos, hlt, rfl⟩ := h
  obtain ⟨hnat, hwide⟩ := count_succ hlt
  exact ⟨by omega, by omega, by rw [hwide, BitVec.add_assoc]⟩

/-- The sample that confirms the edge stands `RUN - 1` positions after it. -/
theorem Confirming.last {r : Rate} {n p : Pos} {c : BitVec 2} (h : Confirming r n p c)
    (hc : (c + 1).toNat = runLen r) : p + BitVec.ofNat 64 (runLen r) = n + 1 := by
  obtain ⟨-, hlt, rfl⟩ := h
  obtain ⟨-, hwide⟩ := count_succ hlt
  rw [← hc, BitVec.add_assoc, ← hwide, BitVec.ofNat_toNat]

/-! ## EDGE -/

theorem edge_low_stay {e : EnvSample} {s : State} (hmode : s.pd.mode = .low)
    (hrise : ¬(s.pd.hist[1].bad = false ∧
      e.bad = false ∧ exceeds s.cfg.threshSel e.amp.toNat s.pd.hist[1].amp.toNat = true)) :
    edge e s = s := by
  have htest : ¬(good s.pd.hist[1] && rises s.cfg.threshSel e s.pd.hist[1].amp) = true := by
    simpa [rises_iff, good] using hrise
  simp only [edge, hmode, edgeLow, oldSample]
  exact if_neg htest

/-- In LOW and HIGH no run is being confirmed. -/
theorem detectorInv_of_settled {s : State} (h : s.pd.mode = .low ∨ s.pd.mode = .high) :
    DetectorInv s := by
  constructor <;> intro hmode <;> simp [hmode] at h

/-- `p` ended `RUN` samples before the position that follows `s.pos`. -/
def EndsNow (s : State) (p : Pulse) : Prop :=
  p.stop + BitVec.ofNat 64 (runLen s.cfg.rateSel) = s.pos + 1

/-- EDGE keeps the runs of the detector up to the end of the tick, and the pulse that it emits ends now. -/
theorem edge_detector (e : EnvSample) {s : State} (h : DetectorInv s) :
    DetectorInv (endTick e (edge e s)) ∧
    ∀ p ∈ (edge e s).streams.pulse, p ∈ s.streams.pulse ∨ EndsNow s p := by
  obtain ⟨hrconf, hfconf⟩ := (detectorInv_iff s).1 h
  have old : ∀ p ∈ s.streams.pulse, p ∈ s.streams.pulse ∨ EndsNow s p := fun _ => .inl
  cases hmode : s.pd.mode with
  | low =>
    by_cases hrise : s.pd.hist[1].bad = false ∧
      e.bad = false ∧ exceeds s.cfg.threshSel e.amp.toNat s.pd.hist[1].amp.toNat = true
    · rw [edge_low_of_rise hmode hrise.1 hrise.2]
      exact ⟨⟨fun _ => confirming_first _ _, nofun⟩, old⟩
    · rw [edge_low_stay hmode hrise]
      exact ⟨detectorInv_of_settled (.inl hmode), old⟩
  | rconf =>
    have hrun := hrconf hmode
    by_cases hrise : e.bad = false ∧ exceeds s.cfg.threshSel e.amp.toNat s.pd.rRef.toNat = true
    · by_cases hcnt : (s.pd.rCnt + 1).toNat = runLen s.cfg.rateSel
      · rw [edge_rconf_confirm hmode hrise hcnt]
        exact ⟨detectorInv_of_settled (.inr rfl), old⟩
      · rw [edge_rconf_extend hmode hrise hcnt]
        exact ⟨⟨fun _ => hrun.next hcnt, by simp [hmode]⟩, old⟩
    · rw [edge_rconf_break hmode hrise]
      exact ⟨detectorInv_of_settled (.inl rfl), old⟩
  | high =>
    by_cases hlong : wMax s.cfg.rateSel < (s.pos - s.pd.start).toNat
    · rw [edge_high_overlong hmode hlong]
      exact ⟨detectorInv_of_settled (.inl rfl), old⟩
    · by_cases hfall : e.bad = false ∧ s.pd.hist[1].bad = false ∧
        exceeds s.cfg.threshSel s.pd.hist[1].amp.toNat e.amp.toNat = true
      · rw [edge_high_fall hmode hlong hfall]
        exact ⟨⟨nofun, fun _ => confirming_first _ _⟩, old⟩
      · rw [edge_high_stay hmode hlong hfall]
        exact ⟨detectorInv_of_settled (.inr hmode), old⟩
  | fconf =>
    have hrun := hfconf hmode
    by_cases hfall : e.bad = false ∧ exceeds s.cfg.threshSel s.pd.fRef.toNat e.amp.toNat = true
    · by_cases hcnt : (s.pd.fCnt + 1).toNat = runLen s.cfg.rateSel
      · by_cases hwidth : wMin s.cfg.rateSel ≤ (s.pd.fPos - s.pd.start).toNat ∧
          (s.pd.fPos - s.pd.start).toNat ≤ wMax s.cfg.rateSel
        · rw [edge_fconf_emit hmode hfall hcnt hwidth]
          refine ⟨detectorInv_of_settled (.inl rfl), fun p hp => ?_⟩
          obtain hp | hp := List.mem_append.1 hp
          · exact .inl hp
          · rw [List.mem_singleton.1 hp]
            exact .inr (hrun.last hcnt)
        · rw [edge_fconf_glitch hmode hfall hcnt hwidth]
          exact ⟨detectorInv_of_settled (.inl rfl), old⟩
      · rw [edge_fconf_extend hmode hfall hcnt]
        exact ⟨⟨by simp [hmode], fun _ => hrun.next hcnt⟩, old⟩
    · rw [edge_fconf_break hmode hfall]
      exact ⟨detectorInv_of_settled (.inr rfl), old⟩

/-! ## SYNC -/

section Matcher

variable {p : Pulse} {s : State}

theorem sync_searching (hk : s.ps.k = 0) : sync p s = first p s := by
  simp [sync, hk]

theorem sync_of_fails (hk : s.ps.k ≠ 0) (hcont : ¬continues p s = true) :
    sync p s = first p (logEvent (.syncFail s.ps.k s.ps.p0) s) := by
  simp only [sync, if_neg hk, if_neg hcont, raise_syncFail]

theorem matched_cases {k : BitVec 2} (hk : k ≠ 0) : (k = 1 ∨ k = 2) ∨ k = 3 := by
  revert k; decide

/-- A first pulse leaves SEARCHING, or one pulse matched with its rising edge and perhaps its falling edge exact (R142). -/
theorem first_matcherInv (p : Pulse) (s : State) : MatcherInv (first p s) := by
  unfold first
  split
  · split <;> exact fun _ => ⟨by simp, by simp⟩
  · exact fun hk => absurd rfl hk

/-- A matching pulse adds at most its two edges to the confidence (R146). -/
theorem newConf_bounds (hconf : s.ps.conf.toNat ≤ 6) :
    s.ps.conf.toNat ≤ (newConf p s).toNat ∧ (newConf p s).toNat ≤ s.ps.conf.toNat + 2 := by
  rw [newConf_eq, BitVec.toNat_ofNat]
  split <;> split <;> omega

/-- `a` is an Anchor of the current rate with a confidence in range, whose window begins less than a half-slot before the
current position, if it has begun. -/
def Fresh (s : State) (a : Anchor) : Prop :=
  a.chanRate = s.cfg.rateSel ∧ (1 ≤ a.confidence.toNat ∧ a.confidence.toNat ≤ 8) ∧
    (s.pos - (openedWindow a).dStart).toInt < half a.chanRate

theorem preF_le_preLen {q : Params} (h : paramsLegal q = true) : q.preF[3] ≤ preLen := by
  simp only [paramsLegal, Bool.and_eq_true, decide_eq_true_eq] at h
  exact h.2

/-- A difference of at most one position, moved on by `c` and back by `k`, without wrapping. -/
theorem toInt_near_le {x : Pos} (hx : x.toInt.natAbs ≤ 1) {c k : Nat} (hc : c ≤ 2) (hk : k ≤ 80) :
    (x + BitVec.ofNat 64 c - BitVec.ofNat 64 k).toInt ≤ c + 1 := by
  have hsum : x + BitVec.ofNat 64 c - BitVec.ofNat 64 k = BitVec.ofInt 64 (x.toInt + c - k) := by
    rw [sub_eq_add_neg, sub_eq_add_neg, BitVec.ofInt_add, BitVec.ofInt_add, BitVec.ofInt_toInt,
      BitVec.ofInt_neg, BitVec.ofInt_natCast, BitVec.ofInt_natCast]
  rw [hsum, BitVec.toInt_ofInt_eq_self (by decide) (by omega) (by omega)]
  omega

/-- A pulse that ends now, at most `TOL` off the last falling edge of a preamble from `p0`, ends less than a half-slot
after the preamble. -/
theorem preamble_end (r : Rate) {n p0 stop : Pos} {m : Nat} (hm : m ≤ preLen)
    (hstop : stop + BitVec.ofNat 64 (runLen r) = n + 1)
    (hnear : (stop - (p0 + BitVec.ofNat 64 (m * half r))).toInt.natAbs ≤ 1) :
    (n - (p0 + BitVec.ofNat 64 (preLen * half r))).toInt < half r := by
  obtain ⟨hpre, hpos, hrun, hlt⟩ :
      preLen * half r ≤ 80 ∧ 1 ≤ runLen r ∧ runLen r ≤ 3 ∧ runLen r < half r := by
    cases r <;> decide
  obtain ⟨c, hc⟩ := Nat.exists_eq_add_of_le' hpos
  obtain ⟨k, hk⟩ := Nat.exists_eq_add_of_le (Nat.mul_le_mul_right (half r) hm)
  have hn : n = stop + BitVec.ofNat 64 c := by
    rw [hc, BitVec.ofNat_add, ← BitVec.add_assoc] at hstop
    exact (BitVec.add_left_inj _).1 hstop.symm
  have hmove : n - (p0 + BitVec.ofNat 64 (preLen * half r)) =
      stop - (p0 + BitVec.ofNat 64 (m * half r)) + BitVec.ofNat 64 c - BitVec.ofNat 64 k := by
    rw [hn, hk, BitVec.ofNat_add]
    ring
  rw [hmove]
  have := toInt_near_le hnear (c := c) (k := k) (by omega) (by omega)
  omega
/-- The Anchor of a full match is fresh if its last pulse ends now. -/
theorem anchorOf_fresh (hlegal : paramsLegal s.params = true) (hinv : MatcherInv s)
    (hnow : EndsNow s p) (hk : s.ps.k = 3) (hcont : continues p s = true) :
    Fresh s (anchorOf p s) := by
  obtain ⟨hlow, hhigh⟩ := hinv (by simp [hk])
  simp only [hk] at hhigh
  obtain ⟨hge, hle⟩ := newConf_bounds (p := p) (s := s) hhigh
  obtain ⟨-, hnear⟩ := continues_iff.1 hcont
  have hfall : expectedFall s =
      s.ps.p0 + BitVec.ofNat 64 (s.params.preF[3] * half s.cfg.rateSel) := by
    simp [expectedFall, preFall, hk]
  rw [hfall] at hnear
  exact ⟨rfl, ⟨hlow.trans hge, hle.trans (Nat.add_le_add_right hhigh 2)⟩,
    preamble_end _ (preF_le_preLen hlegal) hnow hnear⟩

/-- SYNC keeps the confidence in range, and the Anchor that it emits is fresh. -/
theorem sync_matcher (hlegal : paramsLegal s.params = true) (hinv : MatcherInv s)
    (hnow : EndsNow s p) :
    MatcherInv (sync p s) ∧ ∀ a ∈ (sync p s).streams.anchor, a ∈ s.streams.anchor ∨ Fresh s a := by
  have first_streams : ∀ u, (first p u).streams = u.streams := by
    intro u
    obtain ⟨ps, h⟩ := first_writes p u
    rw [h, setPs_streams]
  by_cases hk : s.ps.k = 0
  · rw [sync_searching hk]
    exact ⟨first_matcherInv p s, fun a ha => .inl (by rwa [first_streams] at ha)⟩
  by_cases hcont : continues p s = true
  · obtain ⟨hlow, hhigh⟩ := hinv hk
    obtain hk | hk := matched_cases hk
    · rw [sync_of_continues hk hcont]
      refine ⟨fun _ => ?_, fun a ha => .inl ha⟩
      have hnext : (s.ps.k + 1).toNat = s.ps.k.toNat + 1 := by
        obtain hk | hk := hk <;> rw [hk] <;> rfl
      have := newConf_bounds (p := p) (s := s) (by omega)
      show 1 ≤ (newConf p s).toNat ∧ (newConf p s).toNat ≤ 2 * (s.ps.k + 1).toNat
      omega
    · rw [sync_of_completes hk hcont]
      refine ⟨fun h => absurd rfl h, fun a ha => ?_⟩
      obtain ha | ha := List.mem_append.1 ha
      · exact .inl ha
      · rw [List.mem_singleton.1 ha]
        exact .inr (anchorOf_fresh hlegal hinv hnow hk hcont)
  · rw [sync_of_fails hk hcont]
    exact ⟨first_matcherInv p _, fun a ha => .inl (by rwa [first_streams] at ha)⟩

end Matcher

end Sys2Proof.Machine

/-! SUPPORT. What FRAME.OPEN and FRAME.ACC keep inside a tick (10_state R30, R31): the clauses of `WindowInv` and
`AlignmentInv`, the second up to the next position. -/

namespace Sys2Proof.Machine

/-! ## FRAME.OPEN -/

theorem frameOpen_of_idle {a : Anchor} {s : State} (hmode : s.fr.mode = .idle) :
    frameOpen a s = setCand CandStore.initial (setFr (openedWindow a) s) := by
  simp only [frameOpen, hmode]

theorem frameOpen_of_active {a : Anchor} {s : State} (hmode : s.fr.mode = .active) :
    frameOpen a s = logEvent (.anchorDropped a.position) s := by
  simp only [frameOpen, hmode, raise_anchorDropped]

theorem spu_pos (r : Rate) : 0 < spu r := by cases r <;> decide

theorem half_lt_spu (r : Rate) : half r < spu r := by cases r <;> decide

/-- A position that is reached, as a signed difference, is that many samples on. -/
theorem toNat_of_toInt_nonneg {x : Pos} (h : 0 ≤ x.toInt) : (x.toNat : Int) = x.toInt := by
  rw [BitVec.toInt_eq_toNat_cond] at h ⊢
  have := x.isLt
  split at h <;> omega

/-- A window opened by a fresh Anchor has consumed no sample, and stands in its first slot if it has begun. -/
theorem openedWindow_aligned {a : Anchor} {s : State} (ha : Fresh s a) :
    AlignmentInv (setCand CandStore.initial (setFr (openedWindow a) s)) := by
  obtain ⟨-, -, hnear⟩ := ha
  intro _
  refine ⟨rfl, Nat.zero_le _, Nat.zero_le _, fun _ => ⟨rfl, rfl, rfl, rfl, rfl⟩, fun hreached => ?_⟩
  refine ⟨Nat.div_eq_of_lt ?_, Nat.zero_le _, Nat.zero_le _⟩
  have hidx := toNat_of_toInt_nonneg hreached
  have := half_lt_spu a.chanRate
  simp only [setCand_pos, setCand_fr, setFr_pos, setFr_fr] at hidx ⊢
  show (s.pos - (openedWindow a).dStart).toNat < spu a.chanRate
  omega

theorem count_initial : (CandStore.initial.sym.toList.count .ambig) = 0 := by
  show (Vector.replicate 112 Sym.zero).toList.count .ambig = 0
  rw [Vector.toList_replicate, List.count_replicate]
  rfl

theorem openedWindow_windowInv {a : Anchor} {s : State} (hrun : s.run = .running)
    (ha : Fresh s a) : WindowInv (setCand CandStore.initial (setFr (openedWindow a) s)) := by
  obtain ⟨hrate, hconf, -⟩ := ha
  intro _
  have hfirst : (0 : BitVec 7).toNat < FrameLen.short.slots := by decide
  have hbefore : ¬5 ≤ (0 : BitVec 7).toNat := by decide
  refine ⟨hrun, hrate, hrate, hconf, hfirst, fun _ => rfl, fun h => absurd h hbefore, ?_, ?_⟩
  · intro k hk _
    exact Vector.getElem_replicate hk
  · exact count_initial.symm

theorem frameOpen_windowInv {a : Anchor} {s : State} (hrun : s.run = .running) (ha : Fresh s a)
    (h : WindowInv s) : WindowInv (frameOpen a s) := by
  cases hmode : s.fr.mode with
  | idle => rw [frameOpen_of_idle hmode]; exact openedWindow_windowInv hrun ha
  | active => rw [frameOpen_of_active hmode]; exact h

theorem frameOpen_alignmentInv {a : Anchor} {s : State} (ha : Fresh s a) (h : AlignmentInv s) :
    AlignmentInv (frameOpen a s) := by
  cases hmode : s.fr.mode with
  | idle => rw [frameOpen_of_idle hmode]; exact openedWindow_aligned ha
  | active => rw [frameOpen_of_active hmode]; exact h

/-! ## PPM on the symbol store -/

theorem ppm_eq (o : SlotObs) (s : State) :
    ppm o s = setHost (hostAfter o.j (symbolOf s.cfg.threshSel o) s.host)
      (setCand (storeAfter o.j (symbolOf s.cfg.threshSel o) s.cand) s) := by
  unfold ppm storeSymbol storeAfter hostAfter
  dsimp only
  split <;> rfl

/-- The symbols that FRAME.LEN reads stand before slot 5. -/
theorem storeAfter_take_five {j : BitVec 7} (hj : 5 ≤ j.toNat) (x : Sym) (c : CandStore) :
    (storeAfter j x c).sym.toList.take 5 = c.sym.toList.take 5 := by
  simp only [storeAfter, Vector.toList_setIfInBounds]
  exact List.take_set_of_le hj

theorem storeAfter_later {j : BitVec 7} {k : Nat} (hk : k < 112) (hj : j.toNat < k) (x : Sym)
    (c : CandStore) : (storeAfter j x c).sym[k] = c.sym[k] := by
  simp only [storeAfter]
  exact Vector.getElem_setIfInBounds_ne hk (by omega)

/-- The first symbol of a slot is counted if it is ambiguous (44_ppm_decoder R181). -/
theorem storeAfter_count {j : BitVec 7} (hj : j.toNat < 112) (x : Sym) (c : CandStore)
    (hfresh : c.sym[j.toNat] = .zero) (hcount : c.nAmb.toNat = c.sym.toList.count .ambig) :
    (storeAfter j x c).nAmb.toNat = (storeAfter j x c).sym.toList.count .ambig := by
  have hlen : (storeAfter j x c).sym.toList.count .ambig ≤ 112 :=
    List.count_le_length.trans_eq (by simp)
  have hset : (storeAfter j x c).sym.toList.count .ambig =
      c.sym.toList.count .ambig + if x = .ambig then 1 else 0 := by
    simp only [storeAfter, Vector.toList_setIfInBounds]
    rw [List.count_set (by simpa using hj)]
    simp [hfresh]
  rw [hset] at hlen ⊢
  simp only [storeAfter]
  by_cases hx : x = .ambig
  · simp only [hx, if_true] at hlen ⊢
    have hone : (1 : BitVec 7).toNat = 1 := rfl
    rw [BitVec.toNat_add, hcount]
    omega
  · simp only [hx, if_false]
    exact hcount

/-! ## FRAME.ACC -/

section Accumulate

variable {e : EnvSample} {s : State}

theorem frameAcc_outside (h : ¬(s.fr.mode = .active ∧ 0 ≤ (s.pos - s.fr.dStart).toInt)) :
    frameAcc e s = s := by
  rw [← posReached_iff] at h
  exact if_neg h

theorem frameAcc_slot_end (hmode : s.fr.mode = .active)
    (hreached : 0 ≤ (s.pos - s.fr.dStart).toInt)
    (hend : windowIndex s % spu s.fr.rate + 1 = spu s.fr.rate) :
    frameAcc e s = completeSlot
      (setFr (addSample e s.fr (windowIndex s % spu s.fr.rate / half s.fr.rate)) s) := by
  simp only [frameAcc, (posReached_iff _ _).2 hreached, hmode, hend, and_self, if_true]

/-- A sample writes nothing of a window but the energies and the marks of its half-slots. -/
theorem addSample_writes (e : EnvSample) (fr : FrState) (h : Nat) :
    ∃ e0 e1 b0 b1, addSample e fr h = { fr with e0 := e0, e1 := e1, b0 := b0, b1 := b1 } := by
  unfold addSample
  split <;> split <;> exact ⟨_, _, _, _, rfl⟩

theorem takeSlot_emitSlot {f : SlotObs → State → State} {o : SlotObs} (hslot : s.streams.slot = []) :
    takeSlot f (emitSlot o s) = f o s := by
  obtain ⟨run, pos, ctrl, srcRate, err, cfg, pd, ps, fr, cand, ⟨env, pul, anc, slot, candq⟩, outq,
    params, host⟩ := s
  cases hslot
  rfl

theorem slotObs_j (fr : FrState) : (slotObs fr).j = fr.j := rfl

/-- The symbol store once the slot that completes has its symbol. -/
def storedSymbol (s : State) : CandStore :=
  storeAfter s.fr.j (symbolOf s.cfg.threshSel (slotObs s.fr)) s.cand

/-- The window length once the slot that completes is counted: FRAME.LEN sets it after slot 4 (43_framer R167). -/
def lengthAfter (s : State) : FrameLen :=
  if (s.fr.j + 1).toNat = 5 then
    lengthOf s.params (provisional ((storedSymbol s).sym.toList.take 5))
  else s.fr.n

/-- `s` with the completed slot's symbol stored, the next slot begun and the length selected: the end of a slot but for
CLOSE (43_framer R164). -/
def slotStored (s : State) : State :=
  { s with
    fr := { nextSlot s.fr with n := lengthAfter s }, cand := storedSymbol s,
    host := hostAfter s.fr.j (symbolOf s.cfg.threshSel (slotObs s.fr)) s.host }

theorem completeSlot_eq (hslot : s.streams.slot = []) :
    completeSlot s =
      if (slotStored s).fr.j.toNat = (slotStored s).fr.n.slots then closeFrame (slotStored s)
      else slotStored s := by
  have hfr : (ppm (slotObs s.fr) s).fr = s.fr := by rw [ppm_eq]; rfl
  have hstored : ∀ u, u = setFr (nextSlot s.fr) (ppm (slotObs s.fr) s) →
      (if u.fr.j.toNat = 5 then frameLen u else u) = slotStored s := by
    rintro u rfl
    rw [ppm_eq, slotObs_j]
    by_cases hfive : (s.fr.j + 1).toNat = 5
    · simp only [slotStored, lengthAfter, storedSymbol, frameLen, selectLength, setFr, setHost,
        setCand, nextSlot, hfive, if_true]
    · simp only [slotStored, lengthAfter, storedSymbol, setFr, setHost, setCand, nextSlot, hfive,
        if_false]
  unfold completeSlot
  dsimp only
  rw [takeSlot_emitSlot hslot, hfr, hstored _ rfl]

/-- The window after the current sample joined its half-slot. -/
def sampleAdded (e : EnvSample) (s : State) : State :=
  setFr (addSample e s.fr (windowIndex s % spu s.fr.rate / half s.fr.rate)) s

/-- FRAME.ACC finds no begun window, or adds its sample, or completes a slot with it, the last one or another. -/
theorem frameAcc_cases (e : EnvSample) (hslot : s.streams.slot = []) :
    (¬(s.fr.mode = .active ∧ 0 ≤ (s.pos - s.fr.dStart).toInt) ∧ frameAcc e s = s) ∨
    ((s.fr.mode = .active ∧ 0 ≤ (s.pos - s.fr.dStart).toInt) ∧
      ((windowIndex s % spu s.fr.rate + 1 ≠ spu s.fr.rate ∧ frameAcc e s = sampleAdded e s) ∨
       (windowIndex s % spu s.fr.rate + 1 = spu s.fr.rate ∧
        (slotStored (sampleAdded e s)).fr.j.toNat ≠ (slotStored (sampleAdded e s)).fr.n.slots ∧
        frameAcc e s = slotStored (sampleAdded e s)) ∨
       frameAcc e s = closeFrame (slotStored (sampleAdded e s)))) := by
  by_cases hopen : s.fr.mode = .active ∧ 0 ≤ (s.pos - s.fr.dStart).toInt
  · refine .inr ⟨hopen, ?_⟩
    by_cases hend : windowIndex s % spu s.fr.rate + 1 = spu s.fr.rate
    · have hacc : frameAcc e s = completeSlot (sampleAdded e s) :=
        frameAcc_slot_end hopen.1 hopen.2 hend
      have hadded : (sampleAdded e s).streams.slot = [] := hslot
      rw [hacc, completeSlot_eq hadded]
      split
      · exact .inr (.inr rfl)
      · exact .inr (.inl ⟨hend, ‹_›, rfl⟩)
    · exact .inl ⟨hend, frameAcc_inside_slot hopen.1 hopen.2 hend⟩
  · exact .inl ⟨hopen, frameAcc_outside hopen⟩

/-- FRAME.ACC emits at most one candidate and nothing else. -/
theorem frameAcc_streams (e : EnvSample) (hslot : s.streams.slot = []) :
    ∃ cs : List Candidate, cs.length ≤ 1 ∧
      (frameAcc e s).streams = { s.streams with candidate := s.streams.candidate ++ cs } := by
  have none : ∃ cs : List Candidate, cs.length ≤ 1 ∧
      s.streams = { s.streams with candidate := s.streams.candidate ++ cs } :=
    ⟨[], Nat.zero_le _, by simp⟩
  obtain ⟨-, h⟩ | ⟨-, ⟨-, h⟩ | ⟨-, -, h⟩ | h⟩ := frameAcc_cases e hslot
  · rw [h]; exact none
  · rw [h]; exact none
  · rw [h]; exact none
  · rw [h]; exact ⟨[_], le_rfl, rfl⟩

/-! ## The window -/

theorem sampleAdded_windowInv (h : WindowInv s) : WindowInv (sampleAdded e s) := by
  obtain ⟨e0, e1, b0, b1, hadd⟩ :=
    addSample_writes e s.fr (windowIndex s % spu s.fr.rate / half s.fr.rate)
  rw [sampleAdded, hadd]
  exact h

theorem slots_bounds (n : FrameLen) : 56 ≤ n.slots ∧ n.slots ≤ 112 := by cases n <;> decide

/-- The next slot of a window is in the same relation to its symbols and its length. -/
theorem slotStored_windowInv (hmode : s.fr.mode = .active) (h : WindowInv s)
    (hopen : (slotStored s).fr.j.toNat ≠ (slotStored s).fr.n.slots) : WindowInv (slotStored s) := by
  obtain ⟨hrun, hrate, hchan, hconf, hj, hshort, hlong, hzero, hcount⟩ := h hmode
  have hslots := slots_bounds s.fr.n
  have hslots' := slots_bounds (lengthAfter s)
  have hsucc : (s.fr.j + 1).toNat = s.fr.j.toNat + 1 :=
    BitVec.toNat_add_of_lt (by show s.fr.j.toNat + 1 < 128; omega)
  have hopen : (s.fr.j + 1).toNat ≠ (lengthAfter s).slots := hopen
  have hkept : (s.fr.j + 1).toNat ≠ 5 → lengthAfter s = s.fr.n := fun hne => if_neg hne
  intro _
  refine ⟨hrun, hrate, hchan, hconf, ?_, ?_, ?_, ?_, ?_⟩
  · show (s.fr.j + 1).toNat < (lengthAfter s).slots
    by_cases hfive : (s.fr.j + 1).toNat = 5
    · omega
    · rw [hkept hfive] at hopen ⊢
      omega
  · intro hlt
    have hlt : (s.fr.j + 1).toNat < 5 := hlt
    show lengthAfter s = .short
    rw [hkept (by omega)]
    exact hshort (by omega)
  · intro hge
    have hge : 5 ≤ (s.fr.j + 1).toNat := hge
    show lengthAfter s = lengthOf s.params (provisional ((storedSymbol s).sym.toList.take 5))
    by_cases hfive : (s.fr.j + 1).toNat = 5
    · exact if_pos hfive
    · rw [hkept hfive, hlong (by omega), storedSymbol, storeAfter_take_five (by omega)]
  · intro k hk hle
    have hle : (s.fr.j + 1).toNat ≤ k := hle
    exact (storeAfter_later hk (by omega) _ _).trans (hzero k hk (by omega))
  · exact storeAfter_count (by omega) _ _ (hzero _ _ le_rfl) hcount

theorem frameAcc_windowInv (e : EnvSample) (hslot : s.streams.slot = []) (h : WindowInv s) :
    WindowInv (frameAcc e s) := by
  have hadded : WindowInv (sampleAdded e s) := sampleAdded_windowInv h
  obtain ⟨-, hacc⟩ | ⟨⟨hmode, -⟩, ⟨-, hacc⟩ | ⟨-, hopen, hacc⟩ | hacc⟩ := frameAcc_cases e hslot
  · rw [hacc]; exact h
  · rw [hacc]; exact hadded
  · rw [hacc]
    refine slotStored_windowInv ?_ hadded hopen
    obtain ⟨e0, e1, b0, b1, hadd⟩ :=
      addSample_writes e s.fr (windowIndex s % spu s.fr.rate / half s.fr.rate)
    rw [sampleAdded, hadd]
    exact hmode
  · rw [hacc]; exact nofun

/-! ## Its place -/

theorem toInt_succ {x : Pos} (h : x.toInt < 2 ^ 63 - 1) : (x + 1).toInt = x.toInt + 1 := by
  have hlow : -2 ^ 63 ≤ x.toInt := BitVec.le_toInt x
  have hsum : x + 1 = BitVec.ofInt 64 (x.toInt + 1) := by
    rw [BitVec.ofInt_add, BitVec.ofInt_toInt]; rfl
  rw [hsum, BitVec.toInt_ofInt_eq_self (by decide) (by omega) (by omega)]

theorem pos_succ_sub (n d : Pos) : n + 1 - d = n - d + 1 := by ring

theorem spu_eq_two_half (r : Rate) : spu r = 2 * half r := by cases r <;> rfl

/-- A window that began `i` samples before the position of `s`, with `fr.j` and its energies as R164 and R165 say. -/
structure StandsAt (s : State) (i : Nat) : Prop where
  start : s.fr.dStart =
    s.fr.anchor.position + BitVec.ofNat 64 (preLen * half s.fr.anchor.chanRate)
  begun : (s.pos - s.fr.dStart).toInt = i
  slot : i / spu s.fr.rate = s.fr.j.toNat
  energy0 : s.fr.e0.toNat ≤ 46340 * min (i % spu s.fr.rate) (half s.fr.rate)
  energy1 : s.fr.e1.toNat ≤ 46340 * (i % spu s.fr.rate - half s.fr.rate)

theorem toNat_of_toInt_eq {x : Pos} {i : Nat} (h : x.toInt = i) : x.toNat = i := by
  have := toNat_of_toInt_nonneg (x := x) (by omega)
  omega

theorem StandsAt.alignmentInv {i : Nat} (h : StandsAt s i) : AlignmentInv s := by
  intro _
  obtain ⟨hstart, hbegun, hslot, h0, h1⟩ := h
  have hidx := toNat_of_toInt_eq hbegun
  have hhalf : half s.fr.rate ≤ 5 := by cases s.fr.rate <;> decide
  have hr : i % spu s.fr.rate < spu s.fr.rate := Nat.mod_lt _ (spu_pos _)
  have htwo := spu_eq_two_half s.fr.rate
  dsimp only
  rw [hidx]
  exact ⟨hstart, by omega, by omega, fun hneg => by omega, fun _ => ⟨hslot, h0, h1⟩⟩

theorem AlignmentInv.standsAt (h : AlignmentInv s) (hmode : s.fr.mode = .active)
    (hreached : 0 ≤ (s.pos - s.fr.dStart).toInt) : StandsAt s (windowIndex s) := by
  obtain ⟨hstart, -, -, -, hbegun⟩ := h hmode
  obtain ⟨hslot, h0, h1⟩ := hbegun hreached
  exact ⟨hstart, (toNat_of_toInt_nonneg hreached).symm, hslot, h0, h1⟩

/-- A sample of at most 46340 keeps the bounds of its half-slot, at the next place of the slot. -/
theorem addSample_energy {fr : FrState} {r h : Nat} (hamp : e.amp.toNat ≤ 46340) (hh : h ≤ 5)
    (hr : r < 2 * h) (h0 : fr.e0.toNat ≤ 46340 * min r h) (h1 : fr.e1.toNat ≤ 46340 * (r - h)) :
    (addSample e fr (r / h)).e0.toNat ≤ 46340 * min (r + 1) h ∧
    (addSample e fr (r / h)).e1.toNat ≤ 46340 * (r + 1 - h) := by
  rw [addSample_eq _ _ _ _ (by omega)]
  split <;> split <;> simp only [BitVec.toNat_ofNat] <;> omega

/-- The next position of a window that has begun, as long as it is in some slot. -/
theorem StandsAt.begun_succ {i : Nat} (h : StandsAt s i) :
    (s.pos + 1 - s.fr.dStart).toInt = (i + 1 : Nat) := by
  have hspu : spu s.fr.rate ≤ 10 := by cases s.fr.rate <;> decide
  have hj := s.fr.j.isLt
  have hi : i < spu s.fr.rate * (i / spu s.fr.rate + 1) :=
    Nat.lt_mul_div_succ i (spu_pos _)
  have hsmall : i < 10 * 128 :=
    hi.trans_le (Nat.mul_le_mul hspu (by rw [h.slot]; omega))
  rw [pos_succ_sub, toInt_succ (by rw [h.begun]; omega), h.begun]
  rfl

theorem place_succ {i m : Nat} (hm : 0 < m) (h : i % m + 1 ≠ m) :
    (i + 1) / m = i / m ∧ (i + 1) % m = i % m + 1 := by
  have hlt := Nat.mod_lt i hm
  have hdiv := Nat.mod_add_div i m
  exact (Nat.div_mod_unique hm).2 ⟨by omega, by omega⟩

theorem place_wrap {i m : Nat} (hm : 0 < m) (h : i % m + 1 = m) :
    (i + 1) / m = i / m + 1 ∧ (i + 1) % m = 0 := by
  have hdiv := Nat.mod_add_div i m
  exact (Nat.div_mod_unique hm).2 ⟨by rw [Nat.mul_add]; omega, hm⟩

/-- A sample inside a slot leaves the window standing at the next position of that slot. -/
theorem sampleAdded_standsAt (hamp : e.amp.toNat ≤ 46340) (h : StandsAt s (windowIndex s))
    (hin : windowIndex s % spu s.fr.rate + 1 ≠ spu s.fr.rate) :
    StandsAt (endTick e (sampleAdded e s)) (windowIndex s + 1) := by
  have hhalf : half s.fr.rate ≤ 5 := by cases s.fr.rate <;> decide
  have hr : windowIndex s % spu s.fr.rate < 2 * half s.fr.rate :=
    (Nat.mod_lt _ (spu_pos _)).trans_eq (spu_eq_two_half _)
  obtain ⟨hdiv, hmod⟩ := place_succ (spu_pos _) hin
  obtain ⟨henergy0, henergy1⟩ := addSample_energy hamp hhalf hr h.energy0 h.energy1
  obtain ⟨e0, e1, b0, b1, hadd⟩ :=
    addSample_writes e s.fr (windowIndex s % spu s.fr.rate / half s.fr.rate)
  rw [hadd] at henergy0 henergy1
  rw [sampleAdded, hadd]
  exact ⟨h.start, h.begun_succ, hdiv.trans h.slot, hmod ▸ henergy0, hmod ▸ henergy1⟩

/-- The last sample of a slot leaves the window standing at the first position of the next one. -/
theorem slotStored_standsAt (h : StandsAt s (windowIndex s)) (hj : s.fr.j.toNat < 112)
    (hend : windowIndex s % spu s.fr.rate + 1 = spu s.fr.rate) :
    StandsAt (endTick e (slotStored (sampleAdded e s))) (windowIndex s + 1) := by
  have hsucc : (s.fr.j + 1).toNat = s.fr.j.toNat + 1 :=
    BitVec.toNat_add_of_lt (by show s.fr.j.toNat + 1 < 128; omega)
  obtain ⟨hdiv, hmod⟩ := place_wrap (spu_pos _) hend
  obtain ⟨e0, e1, b0, b1, hadd⟩ :=
    addSample_writes e s.fr (windowIndex s % spu s.fr.rate / half s.fr.rate)
  rw [sampleAdded, hadd]
  refine ⟨h.start, h.begun_succ, ?_, Nat.zero_le _, Nat.zero_le _⟩
  show (windowIndex s + 1) / spu s.fr.rate = (s.fr.j + 1).toNat
  rw [hdiv, hsucc, h.slot]

/-- While no window has begun, the next position is at most its first. -/
theorem unreached_alignmentInv (h : AlignmentInv s)
    (hbefore : ¬(s.fr.mode = .active ∧ 0 ≤ (s.pos - s.fr.dStart).toInt)) :
    AlignmentInv (endTick e s) := by
  intro hmode
  have hmode : s.fr.mode = .active := hmode
  have hneg : (s.pos - s.fr.dStart).toInt < 0 := by simpa [hmode] using hbefore
  obtain ⟨hstart, h0, h1, hzero, -⟩ := h hmode
  obtain ⟨hj, he0, he1, -⟩ := hzero hneg
  have hsucc := toInt_succ (x := s.pos - s.fr.dStart) (by omega)
  rw [← pos_succ_sub] at hsucc
  refine ⟨hstart, h0, h1, fun _ => hzero hneg, fun hreached => ?_⟩
  have hreached : 0 ≤ (s.pos + 1 - s.fr.dStart).toInt := hreached
  have hidx : (s.pos + 1 - s.fr.dStart).toNat = 0 := toNat_of_toInt_eq (by omega)
  show (s.pos + 1 - s.fr.dStart).toNat / spu s.fr.rate = s.fr.j.toNat ∧
    s.fr.e0.toNat ≤ _ ∧ s.fr.e1.toNat ≤ _
  rw [hidx, Nat.zero_div, hj, he0, he1]
  exact ⟨rfl, Nat.zero_le _, Nat.zero_le _⟩

theorem frameAcc_alignmentInv (hamp : e.amp.toNat ≤ 46340) (hslot : s.streams.slot = [])
    (hwindow : WindowInv s) (h : AlignmentInv s) : AlignmentInv (endTick e (frameAcc e s)) := by
  obtain ⟨hbefore, hacc⟩ | ⟨⟨hmode, hreached⟩, hbegun⟩ := frameAcc_cases e hslot
  · rw [hacc]
    exact unreached_alignmentInv h hbefore
  · have hstands := h.standsAt hmode hreached
    obtain ⟨hin, hacc⟩ | ⟨hend, -, hacc⟩ | hacc := hbegun
    · rw [hacc]
      exact (sampleAdded_standsAt hamp hstands hin).alignmentInv
    · obtain ⟨-, -, -, -, hj, -⟩ := hwindow hmode
      rw [hacc]
      exact (slotStored_standsAt hstands (hj.trans_le (slots_bounds _).2) hend).alignmentInv
    · rw [hacc]
      exact nofun

end Accumulate

end Sys2Proof.Machine

/-! SUPPORT. `PipeInv` through one tick, stage by stage in the order of 20_memory R58, and through the other operations of
the environment. -/

namespace Sys2Proof.Machine

/-! ## MAG -/

/-- The root found so far stays one whose square is within `x`. -/
theorem isqrtFrom_sq_le {x : Nat} (k : Nat) {r : Nat} (hr : r * r ≤ x) :
    isqrtFrom x k r * isqrtFrom x k r ≤ x := by
  induction k generalizing r with
  | zero => exact hr
  | succ k ih =>
    apply ih
    split
    · assumption
    · exact hr

theorem isqrt_sq_le (x : Nat) : isqrt x * isqrt x ≤ x := by
  rw [isqrt]
  exact isqrtFrom_sq_le 17 (r := 0) (Nat.zero_le x)

theorem toInt_sq_le (v : BitVec 16) : v.toInt * v.toInt ≤ 2 ^ 30 := by
  have hlow : -2 ^ 15 ≤ v.toInt := BitVec.le_toInt v
  have hhigh : v.toInt < 2 ^ 15 := BitVec.toInt_lt
  nlinarith

/-- An amplitude is at most 46340, the root of `2^31` rounded down (40_magnitude R100). -/
theorem magnitude_amp_le (smp : Sample) : (magnitude smp).amp.toNat ≤ 46340 := by
  have hpower : powerOf smp ≤ 2 ^ 31 := by
    have := toInt_sq_le smp.i
    have := toInt_sq_le smp.q
    unfold powerOf
    omega
  have hroot : isqrt (powerOf smp) ≤ 46340 := by
    by_contra hgt
    have := Nat.mul_le_mul (Nat.succ_le_of_lt (not_le.1 hgt)) (Nat.succ_le_of_lt (not_le.1 hgt))
    have := isqrt_sq_le (powerOf smp)
    omega
  unfold magnitude
  split
  · exact Nat.zero_le _
  · rw [BitVec.toNat_ofNat]
    exact (Nat.mod_le _ _).trans hroot

/-! ## Between the stages of a tick -/

/-- What holds between the stages of a tick of a running core once EDGE has run: the detector is ready for the next
position, the other stages stand at the current one. -/
structure MidTick (s : State) : Prop where
  legal : paramsLegal s.params = true
  bench : s.host.bench = []
  running : s.run = .running
  detector : ∀ e, DetectorInv (endTick e s)
  matcher : MatcherInv s
  window : WindowInv s
  aligned : AlignmentInv s

theorem MidTick.setStreams {s : State} (h : MidTick s) (x : Streams) : MidTick (setStreams x s) :=
  ⟨h.legal, h.bench, h.running, h.detector, h.matcher, h.window, h.aligned⟩

theorem setStreams_self {x : Streams} {s : State} (h : s.streams = x) : setStreams x s = s := by
  rw [← h]; rfl

/-- EDGE leaves at most one pulse, which ends now. -/
theorem edge_midTick (e : EnvSample) {s : State} (hinv : PipeInv s) (hrun : s.run = .running) :
    MidTick (edge e s) ∧ ∃ ps : List Pulse, ps.length ≤ 1 ∧ (∀ p ∈ ps, EndsNow (edge e s) p) ∧
      (edge e s).streams = { Streams.empty with pulse := ps } := by
  obtain ⟨hlegal, hbench, hstreams, hdetector, hmatcher, hwindow, haligned⟩ := hinv
  obtain ⟨hdetector', hends⟩ := edge_detector e hdetector
  obtain ⟨pd, new, evs, hedge, -, hnew, -⟩ := edge_writes e s
  rw [hedge] at hdetector' hends ⊢
  refine ⟨⟨hlegal, hbench, hrun, fun _ => hdetector', hmatcher, hwindow, haligned⟩,
    new, hnew, fun p hp => ?_, ?_⟩
  · have hpulse : (withDetector pd new evs s).streams.pulse = new := by
      simp [withDetector, hstreams, Streams.empty]
    obtain hold | hnow := hends p (by rwa [hpulse])
    · simp [hstreams, Streams.empty] at hold
    · exact hnow
  · simp [withDetector, hstreams, Streams.empty]

/-- SYNC takes the pulse and leaves at most one anchor, which is fresh. -/
theorem takeSync_midTick {s : State} {ps : List Pulse} (h : MidTick s) (hlen : ps.length ≤ 1)
    (hnow : ∀ p ∈ ps, EndsNow s p) (hstreams : s.streams = { Streams.empty with pulse := ps }) :
    MidTick (takePulse sync s) ∧ ∃ as : List Anchor, as.length ≤ 1 ∧
      (∀ a ∈ as, Fresh (takePulse sync s) a) ∧
      (takePulse sync s).streams = { Streams.empty with anchor := as } := by
  match ps, hlen with
  | [], _ =>
    have hnone : takePulse sync s = s := by simp [takePulse, hstreams, Streams.empty]
    rw [hnone]
    exact ⟨h, [], Nat.zero_le _, nofun, hstreams⟩
  | [p], _ =>
    have htake : takePulse sync s = sync p (setStreams Streams.empty s) := by
      simp [takePulse, hstreams, Streams.empty]
    have hu := h.setStreams Streams.empty
    obtain ⟨hmatcher, hfresh⟩ := sync_matcher hu.legal hu.matcher (hnow p (List.mem_singleton_self p))
    obtain ⟨m, new, evs, hsync, hnew, -⟩ := sync_writes p (setStreams Streams.empty s)
    rw [htake]
    rw [hsync] at hmatcher hfresh ⊢
    refine ⟨⟨h.legal, h.bench, h.running, h.detector, hmatcher, h.window, h.aligned⟩,
      new, hnew, fun a ha => ?_, rfl⟩
    obtain hold | hfresh := hfresh a ha
    · cases hold
    · exact hfresh

theorem frameOpen_midTick {a : Anchor} {s : State} (h : MidTick s) (ha : Fresh s a) :
    MidTick (frameOpen a s) ∧ (frameOpen a s).streams = s.streams := by
  have hwindow := frameOpen_windowInv h.running ha h.window
  have haligned := frameOpen_alignmentInv ha h.aligned
  cases hmode : s.fr.mode with
  | idle =>
    rw [frameOpen_of_idle hmode] at hwindow haligned ⊢
    exact ⟨⟨h.legal, h.bench, h.running, h.detector, h.matcher, hwindow, haligned⟩, rfl⟩
  | active =>
    rw [frameOpen_of_active hmode] at hwindow haligned ⊢
    exact ⟨⟨h.legal, h.bench, h.running, h.detector, h.matcher, hwindow, haligned⟩, rfl⟩

/-- FRAME.OPEN takes the anchor and leaves no record. -/
theorem takeOpen_midTick {s : State} {as : List Anchor} (h : MidTick s) (hlen : as.length ≤ 1)
    (hfresh : ∀ a ∈ as, Fresh s a) (hstreams : s.streams = { Streams.empty with anchor := as }) :
    MidTick (takeAnchor frameOpen s) ∧ (takeAnchor frameOpen s).streams = Streams.empty := by
  match as, hlen with
  | [], _ =>
    have hnone : takeAnchor frameOpen s = s := by simp [takeAnchor, hstreams, Streams.empty]
    rw [hnone]
    exact ⟨h, hstreams⟩
  | [a], _ =>
    have htake : takeAnchor frameOpen s = frameOpen a (setStreams Streams.empty s) := by
      simp [takeAnchor, hstreams, Streams.empty]
    rw [htake]
    exact frameOpen_midTick (h.setStreams _) (hfresh a (List.mem_singleton_self a))

/-- FRAME.ACC leaves at most one candidate; but for it the tick ends in a state with the invariant. -/
theorem frameAcc_midTick {e : EnvSample} {s : State} (hamp : e.amp.toNat ≤ 46340) (h : MidTick s)
    (hstreams : s.streams = Streams.empty) :
    PipeInv (endTick e (setStreams Streams.empty (frameAcc e s))) ∧
    ∃ cs : List Candidate, cs.length ≤ 1 ∧
      (frameAcc e s).streams = { Streams.empty with candidate := cs } := by
  have hslot : s.streams.slot = [] := by rw [hstreams]; rfl
  have hwindow := frameAcc_windowInv e hslot h.window
  have haligned := frameAcc_alignmentInv hamp hslot h.window h.aligned
  obtain ⟨cs, hcs, hout⟩ := frameAcc_streams e hslot
  rw [hstreams] at hout
  obtain ⟨fr, cand, str, evs, hacc⟩ := frameAcc_writes e s
  refine ⟨?_, cs, hcs, hout⟩
  rw [hacc] at hwindow haligned ⊢
  exact ⟨h.legal, h.bench, rfl, h.detector e, h.matcher, hwindow, haligned⟩

/-- CRC takes the candidate; what it writes is no part of the invariant. -/
theorem takeCrc_pipeInv {e : EnvSample} {s : State} {cs : List Candidate}
    (h : PipeInv (endTick e (setStreams Streams.empty s))) (hlen : cs.length ≤ 1)
    (hstreams : s.streams = { Streams.empty with candidate := cs }) :
    PipeInv (endTick e (takeCandidate crc s)) := by
  match cs, hlen with
  | [], _ =>
    have hnone : takeCandidate crc s = s := by simp [takeCandidate, hstreams, Streams.empty]
    rw [setStreams_self (x := Streams.empty) hstreams] at h
    rwa [hnone]
  | [c], _ =>
    have htake : takeCandidate crc s = crc c (setStreams Streams.empty s) := by
      simp [takeCandidate, hstreams, Streams.empty]
    obtain ⟨new, evs, hcrc, -⟩ := crc_writes c (setStreams Streams.empty s)
    rw [htake, hcrc]
    exact h

theorem tickStages_pipeInv {e : EnvSample} {s : State} (hamp : e.amp.toNat ≤ 46340)
    (h : PipeInv s) (hrun : s.run = .running) : PipeInv (tickStages e s) := by
  obtain ⟨hedge, ps, hps, hnow, hpulse⟩ := edge_midTick e h hrun
  obtain ⟨hsync, as, has, hfresh, hanchor⟩ := takeSync_midTick hedge hps hnow hpulse
  obtain ⟨hopen, hempty⟩ := takeOpen_midTick hsync has hfresh hanchor
  obtain ⟨hacc, cs, hcs, hcand⟩ := frameAcc_midTick hamp hopen hempty
  exact takeCrc_pipeInv hacc hcs hcand

/-- With the internal streams empty, the tick runs its stages on the sample's own envelope sample. -/
theorem tick_of_empty (smp : Sample) {s : State} (h : s.streams = Streams.empty) :
    tick smp s = tickStages (magnitude smp) s := by
  simp only [tick, takeEnvelope, mag, emitEnvelope_streams, h, Streams.empty, List.nil_append]
  exact congrArg (tickStages (magnitude smp)) (setStreams_self h)

theorem tick_pipeInv (smp : Sample) {s : State} (h : PipeInv s) (hrun : s.run = .running) :
    PipeInv (tick smp s) := by
  obtain ⟨-, -, hstreams, -⟩ := id h
  rw [tick_of_empty smp hstreams]
  exact tickStages_pipeInv (magnitude_amp_le smp) h hrun

/-! ## The other operations -/

/-- A core that does not run has no window open. -/
theorem WindowInv.idle_of_stopped {s : State} (h : WindowInv s) (hrun : s.run ≠ .running) :
    s.fr.mode = .idle := by
  cases hmode : s.fr.mode with
  | idle => rfl
  | active => exact absurd (h hmode).1 hrun

/-- With no window open the run state is free. -/
theorem PipeInv.closed {s : State} (h : PipeInv s) (hmode : s.fr.mode = .idle) (run : RunState)
    (err : ErrCode) (log : List Event) :
    PipeInv { s with run := run, err := err, host := { s.host with log := log } } := by
  obtain ⟨hlegal, hbench, hstreams, hdetector, hmatcher, -, -⟩ := h
  refine ⟨hlegal, hbench, hstreams, hdetector, hmatcher, fun hact => ?_, fun hact => ?_⟩
  · exact absurd (hmode.symm.trans hact) nofun
  · exact absurd (hmode.symm.trans hact) nofun

theorem truncateStream_pipeInv {s : State} (h : PipeInv s) :
    PipeInv (truncateStream s) ∧ (truncateStream s).fr.mode = .idle := by
  obtain ⟨hlegal, hbench, hstreams, hdetector, hmatcher, hwindow, -⟩ := id h
  obtain ⟨hclosed, htrunc⟩ | ⟨-, -, htrunc⟩ := truncateStream_cases s
  · rw [htrunc]
    refine ⟨h, ?_⟩
    cases hmode : s.fr.mode with
    | idle => rfl
    | active => exact absurd ⟨(hwindow hmode).1, hmode⟩ hclosed
  · rw [htrunc]
    exact ⟨⟨hlegal, hbench, hstreams, hdetector, hmatcher, nofun, nofun⟩, rfl⟩

theorem startStream_pipeInv {s : State} (h : PipeInv s) : PipeInv (startStream s) := by
  obtain ⟨hlegal, hbench, -, -, -, hwindow, -⟩ := id h
  obtain ⟨-, hs⟩ | ⟨-, -, hs⟩ | ⟨hidle, -, hs⟩ := startStream_cases s
  · rw [hs]; exact h
  · rw [hs]; exact pipeInv_of_initial hlegal hbench rfl rfl rfl rfl
  · rw [hs]
    exact h.closed (hwindow.idle_of_stopped (by simp [hidle])) .fault _ _

theorem stopStream_pipeInv {s : State} (h : PipeInv s) : PipeInv (stopStream s) := by
  obtain ⟨-, hs⟩ | ⟨-, hs⟩ := stopStream_cases s
  · rw [hs]; exact h
  · obtain ⟨hinv, hmode⟩ := truncateStream_pipeInv h
    rw [hs]
    exact hinv.closed hmode .idle _ _

theorem clearCore_pipeInv {s : State} (h : PipeInv s) : PipeInv (clearCore s) := by
  obtain ⟨⟨hlegal, hbench, -⟩, -⟩ := truncateStream_pipeInv h
  exact pipeInv_of_initial hlegal hbench rfl rfl rfl rfl

theorem hardReset_pipeInv {s : State} (h : PipeInv s) : PipeInv (hardReset s) := by
  obtain ⟨hlegal, -⟩ := id h
  obtain ⟨⟨-, hbench, -⟩, -⟩ := truncateStream_pipeInv h
  exact pipeInv_of_initial hlegal hbench rfl rfl rfl rfl

theorem writeConfig_pipeInv (off v : Word) {s : State} (h : PipeInv s) :
    PipeInv (writeConfig off v s) := by
  obtain hw | ⟨-, -, hw⟩ | ⟨-, -, hw⟩ := writeConfig_cases off v s <;> rw [hw] <;> exact h

theorem exec_pipeInv {i : Instr} {s t : State} (hi : external i = true) (h : PipeInv s)
    (hexec : exec i s = .next t) : PipeInv t := by
  cases i with
  | reset => cases hexec; exact hardReset_pipeInv h
  | wrcfg off v => cases execWrcfg_next hexec; exact writeConfig_pipeInv off v h
  | rdreg off => obtain ⟨v, rfl⟩ := execRdreg_next hexec; exact h
  | start ign => cases hexec; exact startStream_pipeInv h
  | stop ign => cases hexec; exact stopStream_pipeInv h
  | clear ign => cases hexec; exact clearCore_pipeInv h
  | nop ign => cases hexec; exact h
  | push smp =>
    obtain ⟨hrun, rfl⟩ := execPush_next hexec
    exact tick_pipeInv smp h hrun
  | pop => obtain ⟨f, l, -, rfl⟩ := execPop_next hexec; exact h
  | _ => cases hi

theorem step_pipeInv {s t : State} (h : PipeInv s) (hstep : step s = .next t) : PipeInv t := by
  obtain ⟨-, hbench, -⟩ := id h
  obtain ⟨-, ⟨-, -, rfl⟩ | ⟨-, i, rest, -, hi, hexec⟩ | ⟨i, rest, hdecode, -⟩⟩ := step_cases hstep
  · exact h
  · exact exec_pipeInv (s := setOps rest s) hi h hexec
  · rw [hbench] at hdecode
    cases hdecode

/-- Settles O8: a tick keeps the invariant stage by stage, every other operation leaves the stages alone or gives them their
initial values, and a step with an empty bench performs an operation of the environment or nothing. -/
theorem environmentKeepsPipeInv : Obligations.EnvironmentKeepsPipeInv :=
  ⟨fun _ _ _ hi h hexec => exec_pipeInv hi h hexec, fun _ _ h hstep => step_pipeInv h hstep⟩

end Sys2Proof.Machine

/-! SUPPORT. The register window (20_memory R52 to R55): which offsets hold a word, what an access to any other does, and what
a write leaves in the registers. -/

namespace Sys2Proof.Machine

/-! ## Offsets of the window -/

/-- `off` is the offset of `CTRL`, `SRC_RATE`, `CMD` or `STATUS`. -/
def IsWordOffset (off : Word) : Prop := off = 0x00 ∨ off = 0x04 ∨ off = 0x08 ∨ off = 0x0C

theorem IsWordOffset.aligned {off : Word} (h : IsWordOffset off) :
    off.toNat < 16 ∧ off.toNat % 4 = 0 := by
  obtain rfl | rfl | rfl | rfl := h <;> decide

theorem exec_wrcfg_word {off : Word} (h : IsWordOffset off) (v : Word) (s : State) :
    exec (.wrcfg off v) s = .next (writeConfig off v s) := if_pos h

theorem exec_wrcfg_no_word {off : Word} (h : ¬IsWordOffset off) (v : Word) (s : State) :
    exec (.wrcfg off v) s = badAccess off := if_neg h

theorem readWord_no_word {off : Word} (h : ¬IsWordOffset off) (s : State) :
    readWord off s = none := by
  simp only [IsWordOffset, not_or] at h
  obtain ⟨hctrl, hrate, hcmd, hstatus⟩ := h
  simp only [readWord, if_neg hctrl, if_neg hrate, if_neg hcmd, if_neg hstatus]

theorem exec_rdreg_no_word {off : Word} (h : ¬IsWordOffset off) (s : State) :
    exec (.rdreg off) s = badAccess off := by
  show execRdreg off s = badAccess off
  rw [execRdreg, readWord_no_word h]

theorem badAccess_outside {off : Word} (h : 16 ≤ off.toNat) :
    badAccess off = .refused (.outsideWindow off) := congrArg _ (if_pos h)

theorem badAccess_inside {off : Word} (h : off.toNat < 16) :
    badAccess off = .refused (.unaligned off) := congrArg _ (if_neg (Nat.not_le.2 h))

/-- Settles O47: no offset outside the window or misaligned holds a word, so either access comes to `badAccess`. -/
theorem badAccessStops : Obligations.BadAccessStops := by
  intro off v s
  constructor
  · intro hout
    have hword : ¬IsWordOffset off := fun h => Nat.not_le.2 h.aligned.1 hout
    rw [exec_wrcfg_no_word hword, exec_rdreg_no_word hword, badAccess_outside hout]
    exact ⟨rfl, rfl⟩
  · intro hin hmis
    have hword : ¬IsWordOffset off := fun h => hmis h.aligned.2
    rw [exec_wrcfg_no_word hword, exec_rdreg_no_word hword, badAccess_inside hin]
    exact ⟨rfl, rfl⟩

/-! ## Writes -/

theorem writeConfig_ctrl (v : Word) {s : State} (hidle : s.run = .idle) :
    writeConfig 0x00 v s = { s with ctrl := ctrlOfWord v } := by
  rw [writeConfig, if_pos hidle, if_pos rfl]

theorem writeConfig_srcRate (v : Word) {s : State} (hidle : s.run = .idle) :
    writeConfig 0x04 v s = { s with srcRate := v } := by
  rw [writeConfig, if_pos hidle, if_neg (by decide), if_pos rfl]

theorem writeConfig_status (v : Word) (s : State) : writeConfig 0x0C v s = s := by
  obtain h | ⟨-, hoff, -⟩ | ⟨-, hoff, -⟩ := writeConfig_cases 0x0C v s
  · exact h
  · cases hoff
  · cases hoff

theorem writeConfig_locked (off v : Word) {s : State} (hrun : s.run ≠ .idle) :
    writeConfig off v s = s := if_neg hrun

theorem toBit_ofBit (b : Bool) : (Rate.ofBit b).toBit = b := by cases b <;> rfl

/-- `CTRL` as read back keeps bits 0, 1, 2 and 7:4 of the word written (20_memory R53). -/
theorem ctrlWord_ctrlOfWord (v : Word) : ctrlWord (ctrlOfWord v) = v &&& 0x000000F7 := by
  apply BitVec.eq_of_getLsbD_eq
  intro i hi
  unfold ctrlWord ctrlOfWord
  iterate 5 rw [BitVec.getLsbD_append]
  interval_cases i <;> simp [toBit_ofBit]

/-- Settles O45: each clause is the rule of its write, and what is read back is the word that the register then holds. -/
theorem registerWriteReadsBack : Obligations.RegisterWriteReadsBack := by
  intro v s
  have hctrl := exec_wrcfg_word (off := 0x00) (.inl rfl) v s
  have hrate := exec_wrcfg_word (off := 0x04) (.inr (.inl rfl)) v s
  have hstatus := exec_wrcfg_word (off := 0x0C) (.inr (.inr (.inr rfl))) v s
  refine ⟨fun hidle => ⟨⟨ctrlOfWord v, ?_, ?_⟩, ?_, rfl⟩, ?_, fun hrun => ⟨?_, ?_⟩⟩
  · rw [hctrl, writeConfig_ctrl v hidle]
  · exact congrArg some (ctrlWord_ctrlOfWord v)
  · rw [hrate, writeConfig_srcRate v hidle]
  · rw [hstatus, writeConfig_status]
  · rw [hctrl, writeConfig_locked _ v hrun]
  · rw [hrate, writeConfig_locked _ v hrun]

end Sys2Proof.Machine

/-! SUPPORT. The tick as the composition of its stages (20_memory R58): what a stage that takes a record does when there is one
and when there is none, and, from empty internal streams, the one stream that holds a record between two stages. -/

namespace Sys2Proof.Machine

theorem exec_push_running (smp : Sample) {s : State} (hrun : s.run = .running) :
    exec (.push smp) s = .next (tick smp s) :=
  if_pos (decide_eq_true hrun)

/-! ## Taking a record -/

theorem takePulse_cases (f : Pulse → State → State) (s : State) :
    (s.streams.pulse = [] ∧ takePulse f s = s) ∨ ∃ p l, s.streams.pulse = p :: l ∧
      takePulse f s = f p (setStreams { s.streams with pulse := l } s) := by
  unfold takePulse
  split
  · exact .inl ⟨‹_›, rfl⟩
  · exact .inr ⟨_, _, ‹_›, rfl⟩

theorem takeAnchor_cases (f : Anchor → State → State) (s : State) :
    (s.streams.anchor = [] ∧ takeAnchor f s = s) ∨ ∃ a l, s.streams.anchor = a :: l ∧
      takeAnchor f s = f a (setStreams { s.streams with anchor := l } s) := by
  unfold takeAnchor
  split
  · exact .inl ⟨‹_›, rfl⟩
  · exact .inr ⟨_, _, ‹_›, rfl⟩

theorem takeCandidate_cases (f : Candidate → State → State) (s : State) :
    (s.streams.candidate = [] ∧ takeCandidate f s = s) ∨ ∃ c l, s.streams.candidate = c :: l ∧
      takeCandidate f s = f c (setStreams { s.streams with candidate := l } s) := by
  unfold takeCandidate
  split
  · exact .inl ⟨‹_›, rfl⟩
  · exact .inr ⟨_, _, ‹_›, rfl⟩

/-- A stream of at most one record is empty after its first is taken. -/
theorem tail_eq_nil {α : Type} {x : α} {l m : List α} (hm : m.length ≤ 1) (h : m = x :: l) :
    l = [] := by
  subst h
  simpa using hm

/-! ## The streams between the stages -/

section BetweenStages

variable {s : State}

theorem edge_streams (e : EnvSample) (h : s.streams = Streams.empty) :
    ∃ ps : List Pulse, ps.length ≤ 1 ∧
      (edge e s).streams = { Streams.empty with pulse := ps } := by
  obtain ⟨pd, new, evs, hedge, -, hnew, -⟩ := edge_writes e s
  refine ⟨new, hnew, ?_⟩
  rw [hedge, withDetector, h]
  rfl

theorem takeSync_streams {ps : List Pulse} (hlen : ps.length ≤ 1)
    (h : s.streams = { Streams.empty with pulse := ps }) :
    ∃ as : List Anchor, as.length ≤ 1 ∧
      (takePulse sync s).streams = { Streams.empty with anchor := as } := by
  obtain rfl : s.streams.pulse = ps := by rw [h]
  obtain ⟨hp, htake⟩ | ⟨p, l, hp, htake⟩ := takePulse_cases sync s
  · refine ⟨[], Nat.zero_le 1, ?_⟩
    rw [htake, h, hp]
    rfl
  · cases tail_eq_nil hlen hp
    obtain ⟨m, new, evs, hsync, hnew, -⟩ :=
      sync_writes p (setStreams { s.streams with pulse := [] } s)
    refine ⟨new, hnew, ?_⟩
    rw [htake, hsync, withMatcher, setStreams_streams, h]
    rfl

theorem frameOpen_streams (a : Anchor) (s : State) : (frameOpen a s).streams = s.streams := by
  cases hmode : s.fr.mode with
  | idle => rw [frameOpen_of_idle hmode]; rfl
  | active => rw [frameOpen_of_active hmode]; rfl

theorem takeOpen_streams {as : List Anchor} (hlen : as.length ≤ 1)
    (h : s.streams = { Streams.empty with anchor := as }) :
    (takeAnchor frameOpen s).streams = Streams.empty := by
  obtain rfl : s.streams.anchor = as := by rw [h]
  obtain ⟨ha, htake⟩ | ⟨a, l, ha, htake⟩ := takeAnchor_cases frameOpen s
  · rw [htake, h, ha]
    rfl
  · cases tail_eq_nil hlen ha
    rw [htake, frameOpen_streams, setStreams_streams, h]
    rfl

/-! ## A stage of the tick is its operation on the record in its stream -/

theorem takeSync_performs (hlen : s.streams.pulse.length ≤ 1) :
    (s.streams.pulse = [] ∧ takePulse sync s = s) ∨ ∃ p, s.streams.pulse = [p] ∧
      exec (.sync p) { s with streams := { s.streams with pulse := [] } } =
        .next (takePulse sync s) := by
  obtain hnone | ⟨p, l, hp, htake⟩ := takePulse_cases sync s
  · exact .inl hnone
  · cases tail_eq_nil hlen hp
    exact .inr ⟨p, hp, congrArg Host.Outcome.next htake.symm⟩

theorem takeOpen_performs (hlen : s.streams.anchor.length ≤ 1) :
    (s.streams.anchor = [] ∧ takeAnchor frameOpen s = s) ∨ ∃ a, s.streams.anchor = [a] ∧
      exec (.frameOpen a) { s with streams := { s.streams with anchor := [] } } =
        .next (takeAnchor frameOpen s) := by
  obtain hnone | ⟨a, l, ha, htake⟩ := takeAnchor_cases frameOpen s
  · exact .inl hnone
  · cases tail_eq_nil hlen ha
    exact .inr ⟨a, ha, congrArg Host.Outcome.next htake.symm⟩

theorem takeCrc_performs (hlen : s.streams.candidate.length ≤ 1) :
    (s.streams.candidate = [] ∧ takeCandidate crc s = s) ∨ ∃ c, s.streams.candidate = [c] ∧
      exec (.crc c) { s with streams := { s.streams with candidate := [] } } =
        .next (takeCandidate crc s) := by
  obtain hnone | ⟨c, l, hc, htake⟩ := takeCandidate_cases crc s
  · exact .inl hnone
  · cases tail_eq_nil hlen hc
    exact .inr ⟨c, hc, congrArg Host.Outcome.next htake.symm⟩

/-- A tick in which EDGE and FRAME.ACC change nothing has no record for the other stages. -/
theorem tickStages_of_still {e : EnvSample} (h : s.streams = Streams.empty) (hedge : edge e s = s)
    (hacc : frameAcc e s = s) : tickStages e s = endTick e s := by
  have hsync : takePulse sync s = s := by simp [takePulse, h, Streams.empty]
  have hopen : takeAnchor frameOpen s = s := by simp [takeAnchor, h, Streams.empty]
  have hcrc : takeCandidate crc s = s := by simp [takeCandidate, h, Streams.empty]
  rw [tickStages, hedge, hsync, hopen, hacc, hcrc]

end BetweenStages

theorem exec_mag_of_empty (smp : Sample) {s : State} (h : s.streams = Streams.empty) :
    exec (.mag smp) s =
      .next { s with streams := { s.streams with envelope := [magnitude smp] } } := by
  show Host.Outcome.next (mag smp s) = _
  rw [mag, emitEnvelope, h]
  rfl

/-! ## The statements -/

/-- Settles O56: the intermediate states are those of `tickStages`; each stream holds at most one record when its stage comes,
so taking the first record is all that the stage does with it. -/
theorem pushComposesStages : Obligations.PushComposesStages := by
  intro smp s hrun hempty
  obtain ⟨ps, hps, hpulse⟩ := edge_streams (magnitude smp) hempty
  obtain ⟨as, has, hanchor⟩ := takeSync_streams hps hpulse
  have hopen := takeOpen_streams has hanchor
  obtain ⟨cs, hcs, hcand⟩ := frameAcc_streams (magnitude smp) (congrArg Streams.slot hopen)
  rw [hopen] at hcand
  have hsync := takeSync_performs (by rwa [hpulse])
  have hframe := takeOpen_performs (by rwa [hanchor])
  have hcrc := takeCrc_performs (by rwa [hcand])
  have hmag := exec_mag_of_empty smp hempty
  refine ⟨magnitude smp, _, _, _, _, _, hmag, rfl, hsync, hframe, rfl, hcrc, ?_⟩
  rw [exec_push_running smp hrun, tick_of_empty smp hempty]
  rfl

/-- Settles O57: EDGE stays in LOW, FRAME.ACC finds no window, and so no stage of the tick has anything to do. -/
theorem pushWithoutComparisonSample : Obligations.PushWithoutComparisonSample := by
  intro smp s hrun hempty hlow hbad hclosed
  have hedge : edge (magnitude smp) s = s := edge_low_stay hlow (by simp [hbad])
  have hacc : frameAcc (magnitude smp) s = s := frameAcc_outside (by simp [hclosed])
  rw [exec_push_running smp hrun, tick_of_empty smp hempty, tickStages_of_still hempty hedge hacc]
  rfl

end Sys2Proof.Machine

/-! SUPPORT. The frame port (20_memory R57, R63) through every operation: what the sink has taken and what waits. Only CRC,
FIX, EMIT and the tick that runs them append to it, only POP, CLEAR and RESET take from it. -/

namespace Sys2Proof.Machine

/-! ## What leaves the frame port alone -/

/-- `t` has the waiting and the taken records of `s`. -/
structure SamePort (s t : State) : Prop where
  outq : t.outq = s.outq
  taken : t.host.taken = s.host.taken

theorem SamePort.refl (s : State) : SamePort s s := ⟨rfl, rfl⟩

theorem SamePort.trans {s t u : State} (h : SamePort s t) (k : SamePort t u) : SamePort s u :=
  ⟨k.outq.trans h.outq, k.taken.trans h.taken⟩

theorem setStreams_samePort (x : Streams) (s : State) : SamePort s (setStreams x s) := ⟨rfl, rfl⟩

theorem edge_samePort (e : EnvSample) (s : State) : SamePort s (edge e s) := by
  obtain ⟨pd, new, evs, h, -⟩ := edge_writes e s
  rw [h]; exact ⟨rfl, rfl⟩

theorem sync_samePort (p : Pulse) (s : State) : SamePort s (sync p s) := by
  obtain ⟨ps, new, evs, h, -⟩ := sync_writes p s
  rw [h]; exact ⟨rfl, rfl⟩

theorem WritesWindow.samePort {s t : State} (h : WritesWindow s t) : SamePort s t := by
  obtain ⟨fr, cand, str, evs, rfl⟩ := h
  exact ⟨rfl, rfl⟩

theorem takeSync_samePort (s : State) : SamePort s (takePulse sync s) := by
  obtain ⟨-, h⟩ | ⟨p, l, -, h⟩ := takePulse_cases sync s
  · rw [h]; exact .refl s
  · rw [h]; exact (setStreams_samePort _ s).trans (sync_samePort p _)

theorem takeOpen_samePort (s : State) : SamePort s (takeAnchor frameOpen s) := by
  obtain ⟨-, h⟩ | ⟨a, l, -, h⟩ := takeAnchor_cases frameOpen s
  · rw [h]; exact .refl s
  · rw [h]; exact (setStreams_samePort _ s).trans (frameOpen_writes a _).samePort

theorem writeConfig_samePort (off v : Word) (s : State) : SamePort s (writeConfig off v s) := by
  obtain h | ⟨-, -, h⟩ | ⟨-, -, h⟩ := writeConfig_cases off v s <;> rw [h] <;> exact ⟨rfl, rfl⟩

theorem startStream_samePort (s : State) : SamePort s (startStream s) := by
  obtain ⟨-, h⟩ | ⟨-, -, h⟩ | ⟨-, -, h⟩ := startStream_cases s <;> rw [h] <;> exact ⟨rfl, rfl⟩

theorem truncateStream_samePort (s : State) : SamePort s (truncateStream s) := by
  obtain ⟨-, h⟩ | ⟨-, -, h⟩ := truncateStream_cases s <;> rw [h] <;> exact ⟨rfl, rfl⟩

theorem stopStream_samePort (s : State) : SamePort s (stopStream s) := by
  obtain ⟨-, h⟩ | ⟨-, h⟩ := stopStream_cases s
  · rw [h]; exact .refl s
  · rw [h]; exact ⟨(truncateStream_samePort s).outq, (truncateStream_samePort s).taken⟩

/-! ## What appends to it -/

/-- `t` has the taken records of `s` and at most one more record waiting, the last. -/
def GrowsPort (s t : State) : Prop :=
  t.host.taken = s.host.taken ∧ ∃ new, t.outq = s.outq ++ new ∧ new.length ≤ 1

theorem SamePort.grows {s t : State} (h : SamePort s t) : GrowsPort s t :=
  ⟨h.taken, [], by rw [h.outq, List.append_nil], Nat.zero_le 1⟩

theorem SamePort.trans_grows {s t u : State} (h : SamePort s t) (k : GrowsPort t u) :
    GrowsPort s u := by
  obtain ⟨htaken, new, hnew, hlen⟩ := k
  exact ⟨htaken.trans h.taken, new, by rw [hnew, h.outq], hlen⟩

theorem withOutput_growsPort {new : List DecodedFrame} (hlen : new.length ≤ 1) (evs : List Event)
    (s : State) : GrowsPort s (withOutput new evs s) := ⟨rfl, new, rfl, hlen⟩

theorem emit_growsPort (a : Anchor) (len : FrameLen) (w : List Bool) (st : ParityStatus)
    (dist : BitVec 2) (s : State) : GrowsPort s (emit a len w st dist s) := by
  obtain ⟨-, -, h⟩ | ⟨-, h⟩ := emit_writes a len w st dist s
  · rw [h]; exact (SamePort.refl s).grows
  · rw [h]; exact withOutput_growsPort le_rfl _ s

theorem fix_growsPort (c : Candidate) (v : List Bool) (syn : Syndrome) (s : State) :
    GrowsPort s (fix c v syn s) := by
  obtain ⟨new, evs, h, hlen⟩ := fix_writes c v syn s
  rw [h]; exact withOutput_growsPort hlen evs s

theorem crc_growsPort (c : Candidate) (s : State) : GrowsPort s (crc c s) := by
  obtain ⟨new, evs, h, hlen⟩ := crc_writes c s
  rw [h]; exact withOutput_growsPort hlen evs s

theorem takeCrc_growsPort (s : State) : GrowsPort s (takeCandidate crc s) := by
  obtain ⟨-, h⟩ | ⟨c, l, -, h⟩ := takeCandidate_cases crc s
  · rw [h]; exact (SamePort.refl s).grows
  · rw [h]; exact (setStreams_samePort _ s).trans_grows (crc_growsPort c _)

/-- Of the stages of a tick only CRC appends. -/
theorem tickStages_growsPort (e : EnvSample) (s : State) : GrowsPort s (tickStages e s) := by
  have h2 := edge_samePort e s
  have h3 := h2.trans (takeSync_samePort _)
  have h4 := h3.trans (takeOpen_samePort _)
  have h5 := h4.trans (frameAcc_writes e _).samePort
  exact h5.trans_grows (takeCrc_growsPort _)

theorem tick_growsPort (smp : Sample) (s : State) : GrowsPort s (tick smp s) := by
  have hmag : SamePort s (mag smp s) := setStreams_samePort _ s
  unfold tick takeEnvelope
  split
  · exact hmag.grows
  · exact (hmag.trans (setStreams_samePort _ _)).trans_grows (tickStages_growsPort _ _)

/-- But for POP, CLEAR and RESET an operation at most appends one record. -/
theorem exec_growsPort {i : Instr} {s t : State} (h : exec i s = .next t) (hpop : i ≠ .pop)
    (hreset : i ≠ .reset) (hclear : ∀ u, i ≠ .clear u) : GrowsPort s t := by
  cases i with
  | mag smp => cases h; exact (setStreams_samePort _ s).grows
  | edge e => cases h; exact (edge_samePort e s).grows
  | sync p => cases h; exact (sync_samePort p s).grows
  | frameOpen a => cases h; exact (frameOpen_writes a s).samePort.grows
  | frameAcc e => cases h; exact (frameAcc_writes e s).samePort.grows
  | frameLen => cases h; exact (frameLen_writes s).samePort.grows
  | ppm o => cases h; exact (ppm_writes o s).samePort.grows
  | crc c => cases h; exact crc_growsPort c s
  | fix c v syn => cases h; exact fix_growsPort c v syn s
  | emit a len w st dist => cases h; exact emit_growsPort a len w st dist s
  | fmtShort low => cases h; exact (setFr_writes _ s).samePort.grows
  | fmtLong low => cases h; exact (setFr_writes _ s).samePort.grows
  | wrcfg off v => cases execWrcfg_next h; exact (writeConfig_samePort off v s).grows
  | rdreg off =>
    obtain ⟨v, rfl⟩ := execRdreg_next h
    exact SamePort.grows ⟨rfl, rfl⟩
  | start ign => cases h; exact (startStream_samePort s).grows
  | stop ign => cases h; exact (stopStream_samePort s).grows
  | nop ign => cases h; exact (SamePort.refl s).grows
  | push smp =>
    obtain ⟨-, rfl⟩ := execPush_next h
    exact tick_growsPort smp s
  | pop => exact absurd rfl hpop
  | clear ign => exact absurd rfl (hclear ign)
  | reset => exact absurd rfl hreset

/-- Settles O15: POP moves the head of what waits to the end of what was taken; every other operation at most appends. -/
theorem framePortIsFifo : Obligations.FramePortIsFifo := by
  intro i s t h hreset hclear
  by_cases hpop : i = .pop
  · subst hpop
    obtain ⟨f, l, hq, rfl⟩ := execPop_next h
    exact ⟨[], by simp [hq], Nat.zero_le 1, fun hne => absurd rfl hne⟩
  · obtain ⟨htaken, new, hnew, hlen⟩ := exec_growsPort h hpop hreset hclear
    exact ⟨new, by rw [htaken, hnew, List.append_assoc], hlen, fun _ => htaken⟩

end Sys2Proof.Machine

/-! SUPPORT. The layouts of the records (30_encoding R71 to R79): which bits of a record's word hold each field. Reading the
fields back from their bits gives the record, so `ofBits` undoes `toBits`. -/

namespace Sys2Proof

/-! ## Codes -/

@[simp] theorem Rate.ofBit_toBit (r : Rate) : Rate.ofBit r.toBit = r := by cases r <;> rfl

@[simp] theorem FrameLen.ofBit_toBit (n : FrameLen) : FrameLen.ofBit n.toBit = n := by
  cases n <;> rfl

@[simp] theorem ParityStatus.ofBits_toBits (st : ParityStatus) :
    ParityStatus.ofBits st.toBits = some st := by cases st <;> rfl

theorem Sym.code_lt (x : Sym) : x.code < 4 := by cases x <;> decide

@[simp] theorem Sym.ofCode_code (x : Sym) : Sym.ofCode x.code = some x := by cases x <;> rfl

theorem Rate.toBit_eq_decide (r : Rate) : r.toBit = decide (r = .msps10) := by cases r <;> rfl

theorem EdgeKind.toBit_eq_decide (k : EdgeKind) : k.toBit = decide (k = .falling) := by
  cases k <;> rfl

theorem FrameLen.toBit_eq_decide (n : FrameLen) : n.toBit = decide (n = .long) := by
  cases n <;> rfl

/-! ## Where the fields lie -/

/-! A record's word is a concatenation with its lowest field last. A field above the lowest one is looked up in what stands
before the last `++`. -/

theorem field_above {v w start len : Nat} {hi : BitVec v} {lo : BitVec w} {x : BitVec len}
    (hle : w ≤ start) (h : hi.extractLsb' (start - w) len = x) :
    (hi ++ lo).extractLsb' start len = x :=
  (BitVec.extractLsb'_append_eq_of_le hle).trans h

theorem bit_above {v w k : Nat} {hi : BitVec v} {lo : BitVec w} {b : Bool} (hle : w ≤ k)
    (h : hi.getLsbD (k - w) = b) : (hi ++ lo).getLsbD k = b := by
  rw [BitVec.getLsbD_append, if_neg (Nat.not_lt.2 hle), h]

theorem field_lowest {v w : Nat} {hi : BitVec v} {lo : BitVec w} :
    (hi ++ lo).extractLsb' 0 w = lo := BitVec.extractLsb'_append_eq_right

theorem field_highest {v w : Nat} {hi : BitVec v} {lo : BitVec w} :
    (hi ++ lo).extractLsb' w v = hi := BitVec.extractLsb'_append_eq_left

theorem bit_alone {b : Bool} : (BitVec.ofBool b).getLsbD 0 = b := by simp

theorem bit_lowest {v : Nat} {hi : BitVec v} {b : Bool} :
    (hi ++ BitVec.ofBool b).getLsbD 0 = b := by
  rw [BitVec.getLsbD_append, if_pos Nat.one_pos, bit_alone]

theorem Sample.toBits_fields (s : Sample) :
    s.toBits.extractLsb' 0 16 = s.i ∧ s.toBits.extractLsb' 16 16 = s.q ∧
    s.toBits.getLsbD 32 = s.bad :=
  ⟨field_lowest, field_above (by decide) field_lowest,
    bit_above (by decide) (bit_above (by decide) bit_alone)⟩

theorem EnvSample.toBits_fields (e : EnvSample) :
    e.toBits.extractLsb' 0 16 = e.amp ∧ e.toBits.getLsbD 16 = e.bad :=
  ⟨field_lowest, bit_above (by decide) bit_alone⟩

theorem PulseEdge.toBits_fields (e : PulseEdge) :
    e.toBits.extractLsb' 0 64 = e.position ∧ e.toBits.getLsbD 64 = e.kind.toBit ∧
    e.toBits.extractLsb' 65 16 = e.amplitude :=
  ⟨field_lowest, bit_above (by decide) bit_lowest, field_above (by decide) field_highest⟩

theorem Pulse.toBits_fields (p : Pulse) :
    p.toBits.extractLsb' 0 64 = p.start ∧ p.toBits.extractLsb' 64 64 = p.stop ∧
    p.toBits.extractLsb' 128 4 = p.width ∧ p.toBits.extractLsb' 132 16 = p.amp ∧
    p.toBits.extractLsb' 148 16 = p.famp :=
  ⟨field_lowest, field_above (by decide) field_lowest,
    field_above (by decide) (field_above (by decide) field_lowest),
    field_above (by decide) (field_above (by decide) (field_above (by decide) field_lowest)),
    field_above (by decide) (field_above (by decide) (field_above (by decide) field_highest))⟩

theorem Anchor.toBits_fields (a : Anchor) :
    a.toBits.extractLsb' 0 64 = a.position ∧ a.toBits.getLsbD 64 = a.chanRate.toBit ∧
    a.toBits.extractLsb' 65 4 = a.confidence :=
  ⟨field_lowest, bit_above (by decide) bit_lowest, field_above (by decide) field_highest⟩

theorem SlotObs.toBits_fields (o : SlotObs) :
    o.toBits.extractLsb' 0 18 = o.e1 ∧ o.toBits.extractLsb' 18 18 = o.e2 ∧
    o.toBits.getLsbD 36 = o.b1 ∧ o.toBits.getLsbD 37 = o.b2 ∧
    o.toBits.extractLsb' 38 7 = o.j :=
  ⟨field_lowest, field_above (by decide) field_lowest,
    bit_above (by decide) (bit_above (by decide) bit_lowest),
    bit_above (by decide) (bit_above (by decide) (bit_above (by decide) bit_lowest)),
    field_above (by decide) (field_above (by decide) (field_above (by decide) field_highest))⟩

theorem DecodedFrame.toBits_fields (f : DecodedFrame) :
    f.toBits.extractLsb' 0 112 = f.bits ∧ f.toBits.getLsbD 112 = f.long.toBit ∧
    f.toBits.extractLsb' 113 2 = f.status.toBits ∧ f.toBits.extractLsb' 115 2 = f.dist ∧
    f.toBits.extractLsb' 117 64 = f.position :=
  ⟨field_lowest, bit_above (by decide) bit_lowest,
    field_above (by decide) (field_above (by decide) field_lowest),
    field_above (by decide) (field_above (by decide) (field_above (by decide) field_lowest)),
    field_above (by decide) (field_above (by decide) (field_above (by decide) field_highest))⟩

theorem Candidate.head_fields (c : Candidate) :
    c.head.extractLsb' 0 69 = c.anchor.toBits ∧ c.head.getLsbD 69 = c.len.toBit ∧
    c.head.extractLsb' 70 7 = c.nAmb :=
  ⟨field_lowest, bit_above (by decide) bit_lowest, field_above (by decide) field_highest⟩

/-- The fixed part of EMIT's operands, as `encode` packs it. -/
def emitHead (a : Anchor) (len : FrameLen) (st : ParityStatus) (dist : BitVec 2) : BitVec 74 :=
  dist ++ st.toBits ++ BitVec.ofBool len.toBit ++ a.toBits

theorem emitHead_fields (a : Anchor) (len : FrameLen) (st : ParityStatus) (dist : BitVec 2) :
    (emitHead a len st dist).extractLsb' 0 69 = a.toBits ∧
    (emitHead a len st dist).getLsbD 69 = len.toBit ∧
    (emitHead a len st dist).extractLsb' 70 2 = st.toBits ∧
    (emitHead a len st dist).extractLsb' 72 2 = dist :=
  ⟨field_lowest, bit_above (by decide) bit_lowest,
    field_above (by decide) (field_above (by decide) field_lowest),
    field_above (by decide) (field_above (by decide) field_highest)⟩

/-- Settles O4: the fields of each record, with the one-bit codes read as the spec writes them. -/
theorem recordFieldsLieAtTheirBits : Obligations.RecordFieldsLieAtTheirBits := by
  refine ⟨Sample.toBits_fields, EnvSample.toBits_fields, fun e => ?_, fun a => ?_,
    SlotObs.toBits_fields, fun f => ?_⟩
  · rw [← EdgeKind.toBit_eq_decide]
    exact e.toBits_fields
  · rw [← Rate.toBit_eq_decide]
    exact a.toBits_fields
  · obtain ⟨hbits, hlong, hstatus, hdist, hpos⟩ := f.toBits_fields
    rw [← FrameLen.toBit_eq_decide, hstatus]
    exact ⟨hbits, hlong, by cases f.status <;> rfl, hdist, hpos⟩

/-! ## Reading a record back -/

@[simp] theorem Sample.ofBits_toBits (s : Sample) : Sample.ofBits s.toBits = s := by
  obtain ⟨hi, hq, hbad⟩ := s.toBits_fields
  rw [Sample.ofBits, hi, hq, hbad]

@[simp] theorem EnvSample.ofBits_toBits (e : EnvSample) : EnvSample.ofBits e.toBits = e := by
  obtain ⟨hamp, hbad⟩ := e.toBits_fields
  rw [EnvSample.ofBits, hamp, hbad]

@[simp] theorem Pulse.ofBits_toBits (p : Pulse) : Pulse.ofBits p.toBits = p := by
  obtain ⟨hstart, hstop, hwidth, hamp, hfamp⟩ := p.toBits_fields
  rw [Pulse.ofBits, hstart, hstop, hwidth, hamp, hfamp]

@[simp] theorem Anchor.ofBits_toBits (a : Anchor) : Anchor.ofBits a.toBits = a := by
  obtain ⟨hpos, hrate, hconf⟩ := a.toBits_fields
  rw [Anchor.ofBits, hpos, hrate, hconf, Rate.ofBit_toBit]

@[simp] theorem SlotObs.ofBits_toBits (o : SlotObs) : SlotObs.ofBits o.toBits = o := by
  obtain ⟨he1, he2, hb1, hb2, hj⟩ := o.toBits_fields
  rw [SlotObs.ofBits, he1, he2, hb1, hb2, hj]

end Sys2Proof

/-! SUPPORT. The byte form of operations (notes/assumptions/2.md): numbers, records, candidates and bit vectors are read back
from the bytes that were written, whatever bytes follow. -/

namespace Sys2Proof

/-! ## Numbers as bytes -/

@[simp] theorem length_leBytes (k n : Nat) : (leBytes k n).length = k := by
  induction k generalizing n with
  | zero => rfl
  | succ k ih => simp [leBytes, ih]

theorem ofLE_leBytes {k n : Nat} (h : n < 256 ^ k) : ofLE (leBytes k n) = n := by
  induction k generalizing n with
  | zero => simp only [pow_zero, Nat.lt_one_iff] at h; rw [h]; rfl
  | succ k ih =>
    have hrest : n / 256 < 256 ^ k := Nat.div_lt_of_lt_mul (by rwa [← pow_succ'])
    rw [leBytes, ofLE, ih hrest, BitVec.toNat_ofNat]
    exact Nat.mod_add_div n 256

theorem ofLE_take_leBytes {k n : Nat} (h : n < 256 ^ k) (rest : List Byte) :
    ofLE ((leBytes k n ++ rest).take k) = n := by
  rw [List.take_left' (length_leBytes k n), ofLE_leBytes h]

theorem drop_leBytes (k n : Nat) (rest : List Byte) : (leBytes k n ++ rest).drop k = rest :=
  List.drop_left' (length_leBytes k n)

theorem not_leBytes_short (k n : Nat) (rest : List Byte) : ¬(leBytes k n ++ rest).length < k := by
  simp

theorem two_pow_le_bytes (w : Nat) : 2 ^ w ≤ 256 ^ byteLen w := by
  calc 2 ^ w ≤ 2 ^ (8 * byteLen w) := Nat.pow_le_pow_right (by decide) (by unfold byteLen; omega)
    _ = 256 ^ byteLen w := pow_mul 2 8 _

/-! ## Records -/

theorem getRec_putRec {w : Nat} (x : BitVec w) (rest : List Byte) :
    getRec w (putRec x ++ rest) = .ok (x, rest) := by
  have hread := ofLE_take_leBytes (x.isLt.trans_le (two_pow_le_bytes w)) rest
  rw [getRec, putRec, if_neg (not_leBytes_short _ _ _), hread, if_pos x.isLt, drop_leBytes,
    BitVec.ofNat_toNat, BitVec.setWidth_eq]

theorem decodeOne_putRec {w : Nat} (f : BitVec w → Instr) (x : BitVec w) (rest : List Byte) :
    decodeOne w f (putRec x ++ rest) = .ok (f x, rest) := by
  rw [decodeOne, getRec_putRec]

/-! ## Bits of a frame -/

theorem bitsNat_lt (v : List Bool) : bitsNat v < 2 ^ v.length := by
  induction v with
  | nil => decide
  | cons b v ih =>
    have := b.toNat_le
    rw [bitsNat, List.length_cons, pow_succ]
    omega

theorem bitsOf_bitsNat (v : List Bool) : bitsOf v.length (bitsNat v) = v := by
  induction v with
  | nil => rfl
  | cons b v ih =>
    have hlow : (bitsNat (b :: v) % 2 == 1) = b := by cases b <;> simp [bitsNat]
    have hhigh : bitsNat (b :: v) / 2 = bitsNat v := by
      have := b.toNat_lt
      rw [bitsNat]
      omega
    rw [List.length_cons, bitsOf, hlow, hhigh, ih]

theorem FrameLen.two_pow_slots (n : FrameLen) : 2 ^ n.slots = 256 ^ (n.slots / 8) := by
  cases n <;> rfl

theorem getBits_putBits {len : FrameLen} {v : List Bool} (hv : v.length = len.slots)
    (rest : List Byte) : getBits len (putBits len v ++ rest) = .ok (v, rest) := by
  have hlt : bitsNat v < 256 ^ (len.slots / 8) := by
    rw [← len.two_pow_slots, ← hv]
    exact bitsNat_lt v
  rw [getBits, putBits, if_neg (not_leBytes_short _ _ _), ofLE_take_leBytes hlt, drop_leBytes,
    ← hv, bitsOf_bitsNat]

/-! ## Candidates -/

theorem symsNat_lt (l : List Sym) : symsNat l < 4 ^ l.length := by
  induction l with
  | nil => decide
  | cons x l ih =>
    have := x.code_lt
    rw [symsNat, List.length_cons, pow_succ]
    omega

theorem symsOf_symsNat (l : List Sym) : symsOf l.length (symsNat l) = some l := by
  induction l with
  | nil => rfl
  | cons x l ih =>
    have := x.code_lt
    have hlow : symsNat (x :: l) % 4 = x.code := by rw [symsNat]; omega
    have hhigh : symsNat (x :: l) / 4 = symsNat l := by rw [symsNat]; omega
    rw [List.length_cons, symsOf, hlow, hhigh, ih, Sym.ofCode_code]

theorem FrameLen.four_pow_slots (n : FrameLen) : 4 ^ n.slots = 256 ^ (n.slots / 4) := by
  cases n <;> rfl

theorem Candidate.sym_length {c : Candidate} (h : c.illFormed = none) :
    c.sym.length = c.len.slots := by
  by_contra hne
  rw [Candidate.illFormed, if_pos hne] at h
  cases h

theorem getCand_putCand {c : Candidate} (hsym : c.sym.length = c.len.slots) (rest : List Byte) :
    getCand (putCand c ++ rest) = .ok (c, rest) := by
  obtain ⟨hanchor, hlen, hamb⟩ := c.head_fields
  have hlt : symsNat c.sym < 256 ^ (c.len.slots / 4) := by
    rw [← c.len.four_pow_slots, ← hsym]
    exact symsNat_lt c.sym
  have hread : symsOf c.len.slots (symsNat c.sym) = some c.sym := by
    rw [← hsym, symsOf_symsNat]
  rw [getCand, putCand, List.append_assoc, getRec_putRec]
  simp only [hanchor, hlen, hamb, FrameLen.ofBit_toBit, Anchor.ofBits_toBits,
    if_neg (not_leBytes_short _ _ _), ofLE_take_leBytes hlt, hread, drop_leBytes]

end Sys2Proof

/-! SUPPORT. The decoder on what the encoder writes, and what the decoder takes from any bytes. -/

namespace Sys2Proof

theorem checkFormed_eq_ok_iff {x y : Instr × List Byte} :
    checkFormed x = .ok y ↔ x = y ∧ y.1.WellFormed := by
  unfold checkFormed
  split
  next hform => exact ⟨fun h => by cases h; exact ⟨rfl, hform⟩, fun ⟨h, _⟩ => congrArg _ h⟩
  next hform => exact ⟨nofun, fun ⟨h, hy⟩ => by subst h; cases hform.symm.trans hy⟩

/-- The decoder answers an operation exactly if a first byte is there, the operands that belong to it follow, and they make
a well-formed operation. -/
theorem decode_eq_ok_iff {bs : List Byte} {i : Instr} {rest : List Byte} :
    decode bs = .ok (i, rest) ↔
      ∃ tag l, bs = tag :: l ∧ decodeOperands tag l = .ok (i, rest) ∧ i.WellFormed := by
  constructor
  · intro h
    cases bs with
    | nil => cases h
    | cons tag l =>
      rw [decode] at h
      split at h
      next => cases h
      next x hops =>
        obtain ⟨rfl, hform⟩ := checkFormed_eq_ok_iff.1 h
        exact ⟨tag, l, rfl, hops, hform⟩
  · rintro ⟨tag, l, rfl, hops, hform⟩
    rw [decode, hops]
    exact checkFormed_eq_ok_iff.2 ⟨rfl, hform⟩

/-! ## The ids whose operand is one record (30_encoding R90) -/

section OneRecord

variable (bs : List Byte)

theorem decodeOperands_mag :
    decodeOperands 0x01 bs = decodeOne 33 (fun b => .mag (Sample.ofBits b)) bs := rfl

theorem decodeOperands_edge :
    decodeOperands 0x02 bs = decodeOne 17 (fun b => .edge (EnvSample.ofBits b)) bs := rfl

theorem decodeOperands_sync :
    decodeOperands 0x03 bs = decodeOne 164 (fun b => .sync (Pulse.ofBits b)) bs := rfl

theorem decodeOperands_frameOpen :
    decodeOperands 0x04 bs = decodeOne 69 (fun b => .frameOpen (Anchor.ofBits b)) bs := rfl

theorem decodeOperands_frameAcc :
    decodeOperands 0x05 bs = decodeOne 17 (fun b => .frameAcc (EnvSample.ofBits b)) bs := rfl

theorem decodeOperands_ppm :
    decodeOperands 0x07 bs = decodeOne 45 (fun b => .ppm (SlotObs.ofBits b)) bs := rfl

theorem decodeOperands_busWrite :
    decodeOperands 0x11 bs
      = decodeOne 64 (fun b => .ofBusWrite (b.extractLsb' 0 32) (b.extractLsb' 32 32)) bs := rfl

theorem decodeOperands_rdreg : decodeOperands 0x12 bs = decodeOne 32 .rdreg bs := rfl

theorem decodeOperands_start : decodeOperands 0x13 bs = decodeOne 30 .start bs := rfl

theorem decodeOperands_stop : decodeOperands 0x14 bs = decodeOne 30 .stop bs := rfl

theorem decodeOperands_clear : decodeOperands 0x15 bs = decodeOne 30 .clear bs := rfl

theorem decodeOperands_nop : decodeOperands 0x16 bs = decodeOne 30 .nop bs := rfl

theorem decodeOperands_push :
    decodeOperands 0x17 bs = decodeOne 33 (fun b => .push (Sample.ofBits b)) bs := rfl

end OneRecord

/-! ## What the encoder writes -/

theorem Instr.wellFormed_fix_iff {c : Candidate} {v : List Bool} {syn : Syndrome} :
    (Instr.fix c v syn).WellFormed ↔ c.illFormed = none ∧ v.length = c.len.slots := by
  cases hc : c.illFormed <;> simp [Instr.WellFormed, Instr.illFormed, hc]

theorem Instr.WellFormed.emit_length {a : Anchor} {len : FrameLen} {w : List Bool}
    {st : ParityStatus} {dist : BitVec 2} (h : (Instr.emit a len w st dist).WellFormed) :
    w.length = len.slots := by
  by_contra hne
  rw [Instr.WellFormed, Instr.illFormed, if_pos hne] at h
  cases h

theorem Instr.WellFormed.wrcfg_offset {off v : Word} (h : (Instr.wrcfg off v).WellFormed) :
    off ≠ 0x08 := by
  intro heq
  rw [Instr.WellFormed, Instr.illFormed, if_pos heq] at h
  cases h

theorem decodeCrc_putCand {c : Candidate} (h : c.illFormed = none) (rest : List Byte) :
    decodeCrc (putCand c ++ rest) = .ok (.crc c, rest) := by
  rw [decodeCrc, getCand_putCand (Candidate.sym_length h)]

theorem decodeFix_put {c : Candidate} {v : List Bool} (h : c.illFormed = none)
    (hv : v.length = c.len.slots) (syn : Syndrome) (rest : List Byte) :
    decodeFix (putCand c ++ (putBits c.len v ++ putRec syn) ++ rest) = .ok (.fix c v syn, rest) := by
  simp only [decodeFix, List.append_assoc, getCand_putCand (Candidate.sym_length h),
    getBits_putBits hv, decodeOne_putRec]

theorem decodeEmit_put {len : FrameLen} {w : List Bool} (hw : w.length = len.slots) (a : Anchor)
    (st : ParityStatus) (dist : BitVec 2) (rest : List Byte) :
    decodeEmit (putRec (emitHead a len st dist) ++ putBits len w ++ rest)
      = .ok (.emit a len w st dist, rest) := by
  obtain ⟨hanchor, hlen, hstatus, hdist⟩ := emitHead_fields a len st dist
  simp only [decodeEmit, List.append_assoc, getRec_putRec, hanchor, hlen, hstatus, hdist,
    ParityStatus.ofBits_toBits, FrameLen.ofBit_toBit, Anchor.ofBits_toBits, getBits_putBits hw]

theorem decodeOperands_wrcfg {off : Word} (h : off ≠ 0x08) (v : Word) (rest : List Byte) :
    decodeOperands 0x11 (putRec (v ++ off) ++ rest) = .ok (.wrcfg off v, rest) := by
  rw [decodeOperands_busWrite, decodeOne_putRec, field_lowest, field_highest, Instr.ofBusWrite,
    if_neg h]

/-- A tag from 0x20 on is no op id: its upper four bits say which format field it is (30_encoding R86). -/
theorem decodeOperands_format {tag : Byte} (h : 0x20 ≤ tag.toNat) (bs : List Byte) :
    decodeOperands tag bs =
      if tag.toNat / 16 = 2 then .ok (.fmtShort (BitVec.ofNat 4 tag.toNat), bs)
      else if tag.toNat / 16 = 3 then .ok (.fmtLong (BitVec.ofNat 4 tag.toNat), bs)
      else .error (.unassigned tag) := by
  unfold decodeOperands
  split
  case h_20 => rfl
  all_goals omega

theorem decodeOperands_fmtShort (low : BitVec 4) (rest : List Byte) :
    decodeOperands (0x2#4 ++ low) rest = .ok (.fmtShort low, rest) := by
  have htag : (0x2#4 ++ low).toNat = 0x20 + low.toNat := by revert low; decide
  have hlow : BitVec.ofNat 4 (0x20 + low.toNat) = low := by revert low; decide
  rw [decodeOperands_format (by omega), htag, if_pos (by omega), hlow]

theorem decodeOperands_fmtLong (low : BitVec 4) (rest : List Byte) :
    decodeOperands (0x3#4 ++ low) rest = .ok (.fmtLong low, rest) := by
  have htag : (0x3#4 ++ low).toNat = 0x30 + low.toNat := by revert low; decide
  have hlow : BitVec.ofNat 4 (0x30 + low.toNat) = low := by revert low; decide
  rw [decodeOperands_format (by omega), htag, if_neg (by omega), if_pos (by omega), hlow]

/-- What the encoder writes for a well-formed operation, its tag first, is read back. -/
theorem decodeOperands_encode {i : Instr} (h : i.WellFormed) (rest : List Byte) :
    ∃ tag l, encode i = tag :: l ∧ decodeOperands tag (l ++ rest) = .ok (i, rest) := by
  cases i with
  | mag smp =>
    exact ⟨0x01, _, rfl, by rw [decodeOperands_mag, decodeOne_putRec, Sample.ofBits_toBits]⟩
  | edge e =>
    exact ⟨0x02, _, rfl, by rw [decodeOperands_edge, decodeOne_putRec, EnvSample.ofBits_toBits]⟩
  | sync p =>
    exact ⟨0x03, _, rfl, by rw [decodeOperands_sync, decodeOne_putRec, Pulse.ofBits_toBits]⟩
  | frameOpen a =>
    exact ⟨0x04, _, rfl, by rw [decodeOperands_frameOpen, decodeOne_putRec, Anchor.ofBits_toBits]⟩
  | frameAcc e =>
    exact ⟨0x05, _, rfl, by rw [decodeOperands_frameAcc, decodeOne_putRec, EnvSample.ofBits_toBits]⟩
  | frameLen => exact ⟨0x06, _, rfl, rfl⟩
  | ppm o =>
    exact ⟨0x07, _, rfl, by rw [decodeOperands_ppm, decodeOne_putRec, SlotObs.ofBits_toBits]⟩
  | crc c => exact ⟨0x08, _, rfl, decodeCrc_putCand h rest⟩
  | fix c v syn =>
    obtain ⟨hc, hv⟩ := Instr.wellFormed_fix_iff.1 h
    exact ⟨0x09, _, rfl, decodeFix_put hc hv syn rest⟩
  | emit a len w st dist =>
    exact ⟨0x0A, _, rfl, decodeEmit_put (Instr.WellFormed.emit_length h) a st dist rest⟩
  | reset => exact ⟨0x10, _, rfl, rfl⟩
  | wrcfg off v => exact ⟨0x11, _, rfl, decodeOperands_wrcfg (Instr.WellFormed.wrcfg_offset h) v rest⟩
  | rdreg off => exact ⟨0x12, _, rfl, by rw [decodeOperands_rdreg, decodeOne_putRec]⟩
  | start u => exact ⟨0x13, _, rfl, by rw [decodeOperands_start, decodeOne_putRec]⟩
  | stop u => exact ⟨0x14, _, rfl, by rw [decodeOperands_stop, decodeOne_putRec]⟩
  | clear u => exact ⟨0x15, _, rfl, by rw [decodeOperands_clear, decodeOne_putRec]⟩
  | nop u => exact ⟨0x16, _, rfl, by rw [decodeOperands_nop, decodeOne_putRec]⟩
  | push smp =>
    exact ⟨0x17, _, rfl, by rw [decodeOperands_push, decodeOne_putRec, Sample.ofBits_toBits]⟩
  | pop => exact ⟨0x18, _, rfl, rfl⟩
  | fmtShort low => exact ⟨_, _, rfl, decodeOperands_fmtShort low rest⟩
  | fmtLong low => exact ⟨_, _, rfl, decodeOperands_fmtLong low rest⟩

/-- Settles O1: a well-formed operation's tag and operands are read back, and pass the decoder's check. -/
theorem decodeOfEncode : Obligations.DecodeOfEncode := by
  intro i rest h
  obtain ⟨tag, l, hbytes, hops⟩ := decodeOperands_encode h rest
  exact decode_eq_ok_iff.2 ⟨tag, l ++ rest, by rw [hbytes, List.cons_append], hops, h⟩

/-! ## What the decoder takes -/

/-- A reader takes what it answers off the front of the bytes. -/
def TakesFront {α : Type} (read : List Byte → Except DecodeError (α × List Byte)) : Prop :=
  ∀ ⦃bs : List Byte⦄ ⦃x : α⦄ ⦃rest : List Byte⦄, read bs = .ok (x, rest) → rest <:+ bs

theorem takesFront_ok {α : Type} (x : α) : TakesFront (fun bs => .ok (x, bs)) := by
  rintro bs _ _ ⟨⟩
  exact List.suffix_refl bs

theorem getRec_takesFront (w : Nat) : TakesFront (getRec w) := by
  intro bs x rest h
  rw [getRec] at h
  split_ifs at h
  cases h
  exact List.drop_suffix _ _

theorem getBits_takesFront (len : FrameLen) : TakesFront (getBits len) := by
  intro bs v rest h
  rw [getBits] at h
  split_ifs at h
  cases h
  exact List.drop_suffix _ _

theorem getCand_takesFront : TakesFront getCand := by
  intro bs c rest h
  rw [getCand] at h
  split at h
  next => cases h
  next head r hhead =>
    dsimp only at h
    split_ifs at h
    split at h
    next => cases h
    next =>
      cases h
      exact (List.drop_suffix _ _).trans (getRec_takesFront _ hhead)

theorem decodeOne_takesFront (w : Nat) (f : BitVec w → Instr) : TakesFront (decodeOne w f) := by
  intro bs i rest h
  rw [decodeOne] at h
  split at h
  next => cases h
  next hrec =>
    cases h
    exact getRec_takesFront _ hrec

theorem decodeCrc_takesFront : TakesFront decodeCrc := by
  intro bs i rest h
  rw [decodeCrc] at h
  split at h
  next => cases h
  next hcand =>
    cases h
    exact getCand_takesFront hcand

theorem decodeFix_takesFront : TakesFront decodeFix := by
  intro bs i rest h
  rw [decodeFix] at h
  split at h
  next => cases h
  next hcand =>
    split at h
    next => cases h
    next hbits =>
      exact (decodeOne_takesFront _ _ h).trans
        ((getBits_takesFront _ hbits).trans (getCand_takesFront hcand))

theorem decodeEmit_takesFront : TakesFront decodeEmit := by
  intro bs i rest h
  rw [decodeEmit] at h
  split at h
  next => cases h
  next hrec =>
    split at h
    next => cases h
    next =>
      split at h
      next => cases h
      next hbits =>
        cases h
        exact (getBits_takesFront _ hbits).trans (getRec_takesFront _ hrec)

/-- By tag: FRAME.LEN, RESET and POP (cases 6, 11, 19) have no operands, nor have the format fields (case 20); CRC, FIX and
EMIT (8, 9, 10) have readers of their own, and every other operation has one record. -/
theorem decodeOperands_takesFront (tag : Byte) : TakesFront (decodeOperands tag) := by
  intro bs i rest h
  unfold decodeOperands at h
  split at h
  case h_6 | h_11 | h_19 => exact takesFront_ok _ h
  case h_8 => exact decodeCrc_takesFront h
  case h_9 => exact decodeFix_takesFront h
  case h_10 => exact decodeEmit_takesFront h
  case h_20 => split_ifs at h <;> exact takesFront_ok _ h
  all_goals exact decodeOne_takesFront _ _ h

/-- Settles O2: the tag is taken, and each reader of operands takes the front of what follows it. -/
theorem decodeTakesWellFormedFront : Obligations.DecodeTakesWellFormedFront := by
  intro bs i rest h
  obtain ⟨tag, l, rfl, hops, hform⟩ := decode_eq_ok_iff.1 h
  obtain ⟨operands, rfl⟩ := decodeOperands_takesFront tag hops
  exact ⟨hform, tag :: operands, List.cons_ne_nil _ _, rfl⟩

/-- Settles O3, by running the decoder on the five words. -/
theorem specWordsDecode : Obligations.SpecWordsDecode := ⟨rfl, rfl, rfl, rfl, rfl⟩

/-! ## The command of a write to `CMD` -/

/-- The two low bits of a word as a number. -/
theorem low_two_bits_eq_iff (v : Word) (c : BitVec 2) :
    v.extractLsb' 0 2 = c ↔ v.toNat % 4 = c.toNat := by
  rw [← BitVec.toNat_inj, BitVec.extractLsb'_toNat, Nat.shiftRight_zero]

theorem ofBusWrite_cmd (v : Word) :
    Instr.ofBusWrite 0x08 v =
      if v.toNat % 4 = 0 then .nop (v.extractLsb' 2 30)
      else if v.toNat % 4 = 1 then .start (v.extractLsb' 2 30)
      else if v.toNat % 4 = 2 then .stop (v.extractLsb' 2 30)
      else .clear (v.extractLsb' 2 30) := by
  simp only [Instr.ofBusWrite, if_pos, low_two_bits_eq_iff]
  rfl

end Sys2Proof

/-! SUPPORT. What the coded operations do: the command of a write to `CMD` (30_encoding R84) and the length that a format field
selects (R86). -/

namespace Sys2Proof.Machine

/-- Settles O48: no command reads the ignored bits. -/
theorem commandWritePerformsCommand : Obligations.CommandWritePerformsCommand := by
  intro v s
  rw [ofBusWrite_cmd]
  split_ifs
  · rfl
  · rfl
  · rfl
  · rfl

/-! ## The format field -/

theorem formatOf_formatBits (b : Bool) (low : BitVec 4) :
    formatOf (formatBits b low) = 16 * b.toNat + low.toNat := by
  revert b low
  decide

theorem selectLength_formatBits (b : Bool) (low : BitVec 4) (s : State) :
    selectLength (formatBits b low) s = { s with fr := { s.fr with
      n := if s.params.isLong.getLsbD (16 * b.toNat + low.toNat) = true then .long else .short } } := by
  rw [selectLength, lengthOf, isLong, formatOf_formatBits]
  rfl

theorem exec_fmtShort (low : BitVec 4) (s : State) :
    exec (.fmtShort low) s = .next { s with fr := { s.fr with
      n := if s.params.isLong.getLsbD low.toNat = true then .long else .short } } := by
  show Host.Outcome.next (selectLength (formatBits false low) s) = _
  rw [selectLength_formatBits, Bool.toNat_false, Nat.mul_zero, Nat.zero_add]

theorem exec_fmtLong (low : BitVec 4) (s : State) :
    exec (.fmtLong low) s = .next { s with fr := { s.fr with
      n := if s.params.isLong.getLsbD (16 + low.toNat) = true then .long else .short } } :=
  congrArg Host.Outcome.next (selectLength_formatBits true low s)

theorem default_isLong_low (low : BitVec 4) : Params.default.isLong.getLsbD low.toNat = false := by
  revert low
  decide

theorem default_isLong_high (low : BitVec 4) :
    Params.default.isLong.getLsbD (16 + low.toNat) = true := by
  revert low
  decide

/-- Settles O34: the operations look up the number of their format field, of which the default predicate reads the top bit. -/
theorem formatFieldSelectsLength : Obligations.FormatFieldSelectsLength := by
  refine fun low s => ⟨exec_fmtShort low s, exec_fmtLong low s, fun hparams => ⟨?_, ?_⟩⟩
  · rw [exec_fmtShort, hparams, default_isLong_low, if_neg Bool.false_ne_true]
  · rw [exec_fmtLong, hparams, default_isLong_high, if_pos rfl]

end Sys2Proof.Machine

/-! SUPPORT. What MAG emits (40_magnitude R100): `isqrt` is the floor of the root for every power of a sample. -/

namespace Sys2Proof.Machine

/-! ## The root -/

/-- With `k` digits to come, the root lies below `r + 2 ^ k`; each digit halves that gap, and it ends at 1. -/
theorem lt_isqrtFrom_succ_sq {x : Nat} (k : Nat) {r : Nat} (hr : x < (r + 2 ^ k) * (r + 2 ^ k)) :
    x < (isqrtFrom x k r + 1) * (isqrtFrom x k r + 1) := by
  induction k generalizing r with
  | zero => exact hr
  | succ k ih =>
    apply ih
    split
    · rwa [pow_succ, mul_two, ← add_assoc] at hr
    next hbig => exact not_le.1 hbig

theorem lt_isqrt_succ_sq {x : Nat} (hx : x < 2 ^ 34) : x < (isqrt x + 1) * (isqrt x + 1) := by
  rw [isqrt]
  exact lt_isqrtFrom_succ_sq 17 (by omega)

/-! ## The power of a sample -/

theorem powerOf_cast (smp : Sample) :
    (powerOf smp : Int) = smp.i.toInt * smp.i.toInt + smp.q.toInt * smp.q.toInt :=
  Int.toNat_of_nonneg (add_nonneg (mul_self_nonneg _) (mul_self_nonneg _))

theorem powerOf_le (smp : Sample) : powerOf smp ≤ 2 ^ 31 := by
  have hcast := powerOf_cast smp
  have hi := toInt_sq_le smp.i
  have hq := toInt_sq_le smp.q
  omega

/-- The root of a power fits the 16 bits of an amplitude. -/
theorem isqrt_powerOf_lt (smp : Sample) : isqrt (powerOf smp) < 2 ^ 16 := by
  have hsq : isqrt (powerOf smp) * isqrt (powerOf smp) < 2 ^ 16 * 2 ^ 16 := by
    have hroot := isqrt_sq_le (powerOf smp)
    have hpower := powerOf_le smp
    omega
  exact lt_of_mul_self_lt_mul_self₀ (Nat.zero_le _) hsq

/-! ## The envelope sample -/

theorem exec_mag (smp : Sample) (s : State) :
    exec (.mag smp) s =
      .next { s with streams := { s.streams with envelope := s.streams.envelope ++ [magnitude smp] } } := rfl

theorem magnitude_of_bad {smp : Sample} (h : smp.bad = true) :
    magnitude smp = { amp := 0, bad := true } := if_pos h

theorem magnitude_of_good {smp : Sample} (h : smp.bad = false) :
    magnitude smp = { amp := BitVec.ofNat 16 (isqrt (powerOf smp)), bad := false } :=
  if_neg (by simp [h])

theorem magnitude_amp_of_good {smp : Sample} (h : smp.bad = false) :
    (magnitude smp).amp.toNat = isqrt (powerOf smp) := by
  rw [magnitude_of_good h]
  exact (BitVec.toNat_ofNat _ _).trans (Nat.mod_eq_of_lt (isqrt_powerOf_lt smp))

/-- Settles O16: the amplitude is the root found digit by digit, which fits its 16 bits and has the power between its
square and the next one. -/
theorem magEmitsFloorOfRoot : Obligations.MagEmitsFloorOfRoot := by
  intro smp s
  refine ⟨magnitude smp, exec_mag smp s, magnitude_of_bad, fun hgood => ?_⟩
  have hfloor := isqrt_sq_le (powerOf smp)
  have hceil := lt_isqrt_succ_sq (x := powerOf smp) ((powerOf_le smp).trans_lt (by decide))
  rw [← magnitude_amp_of_good hgood] at hfloor hceil
  rw [← powerOf_cast]
  exact ⟨by rw [magnitude_of_good hgood], magnitude_amp_le smp, mod_cast hfloor, mod_cast hceil⟩

end Sys2Proof.Machine

/-! EDGE in LOW (41_pulse_detector R112), from the two rules of the branch. -/

namespace Sys2Proof.Machine

/-- Settles O17, one rule of LOW for each branch. -/
theorem edgeInLow : Obligations.EdgeInLow := by
  intro e s hmode
  rw [exec_edge]
  congr 1
  split_ifs with hrise
  · obtain ⟨hgood, hold, hexceeds⟩ := hrise
    rw [edge_low_of_rise hmode hold ⟨hgood, hexceeds⟩]
    rfl
  · exact edge_low_stay hmode (mt and_left_comm.1 hrise)

end Sys2Proof.Machine

/-! SYNC on a first pulse and on one that fails to continue (42_preamble_sync R142, R143), and a whole preamble of four
pulses (R140 to R146). -/

namespace Sys2Proof.Machine

/-! ## The first-pulse test -/

section FirstPulse

variable {p : Pulse} {s : State}

/-- The edges of a nominal first pulse that sit on the template: the rising edge always, the falling edge if the width is
`HALF` (42_preamble_sync R142, R146). -/
def firstConf (p : Pulse) (s : State) : BitVec 4 := if p.width.toNat = half s.cfg.rateSel then 2 else 1

theorem firstConf_toNat :
    (firstConf p s).toNat = 1 + (if p.width.toNat = half s.cfg.rateSel then 1 else 0) := by
  unfold firstConf
  split <;> rfl

theorem first_of_nominal (h : natDist p.width.toNat (half s.cfg.rateSel) ≤ tol s.cfg.rateSel) :
    first p s = setPs { k := 1, p0 := p.start, conf := firstConf p s } s := by
  have hconf : 1 + (if p.width.toNat = half s.cfg.rateSel then 1 else 0) = firstConf p s := by
    unfold firstConf
    split <;> rfl
  rw [first, if_pos h, hconf]

theorem first_of_not_nominal (h : ¬natDist p.width.toNat (half s.cfg.rateSel) ≤ tol s.cfg.rateSel) :
    first p s = setPs { s.ps with k := 0 } s := if_neg h

/-- The first-pulse test does not ask how many pulses had been matched. -/
theorem first_forgets_k (p : Pulse) (s : State) : first p (setPs { s.ps with k := 0 } s) = first p s := rfl

/-- SYNC in SEARCHING, `n` being the nominal width and `z` the same as an integer. -/
theorem sync_first_pulse {n : Nat} {z : Int} (hk : s.ps.k = 0) (hn : half s.cfg.rateSel = n)
    (hz : (half s.cfg.rateSel : Int) = z) :
    sync p s = { s with ps :=
      if ((p.width.toNat : Int) - z).natAbs ≤ 1 then
        { k := 1, p0 := p.start, conf := if p.width.toNat = n then 2 else 1 }
      else { s.ps with k := 0 } } := by
  subst hn hz
  rw [sync_searching hk]
  split_ifs with hwidth hexact
  · rw [first_of_nominal (by rw [tol_eq]; exact hwidth), firstConf, if_pos hexact]; rfl
  · rw [first_of_nominal (by rw [tol_eq]; exact hwidth), firstConf, if_neg hexact]; rfl
  · rw [first_of_not_nominal (by rw [tol_eq]; exact hwidth)]; rfl

end FirstPulse

theorem half_cast_eq_match (r : Rate) : (half r : Int) = match r with | .msps8 => 4 | .msps10 => 5 := by
  cases r <;> rfl

/-- Settles O22: the nominal width is `HALF`, 4 or 5 by the rate. -/
theorem syncFirstPulse : Obligations.SyncFirstPulse := fun _ _ hk =>
  congrArg Host.Outcome.next (sync_first_pulse hk (half_eq_match _) (half_cast_eq_match _))

/-- Settles O23: an edge beyond `TOL` is not `continues`, and what FIRST then makes of the pulse forgets the partial
match. -/
theorem syncFailedContinuation : Obligations.SyncFailedContinuation := by
  intro p s hk hfar
  have hfails : ¬continues p s = true := by
    rw [continues_iff, not_and_or, not_le, not_le, ← tol_eq s.cfg.rateSel]
    exact hfar
  rw [exec_sync, exec_sync, sync_of_fails hk hfails,
    sync_searching (s := { s with ps := _, host := _ }) rfl]
  exact congrArg Host.Outcome.next (first_forgets_k p (logEvent _ s)).symm

/-! ## A whole preamble -/

section Preamble

variable {p : Pulse} {s : State}

/-- `s` with `k` pulses matched of a preamble from `p0`, `conf` edges of them exactly on the template. -/
def partialMatch (k : BitVec 2) (p0 : Pos) (conf : BitVec 4) (s : State) : State :=
  setPs { k := k, p0 := p0, conf := conf } s

/-- How many edges of `p` sit exactly on the next template pulse (42_preamble_sync R146). -/
def exactEdges (p : Pulse) (s : State) : Nat :=
  (if p.start = expectedRise s then 1 else 0) + (if p.stop = expectedFall s then 1 else 0)

theorem exactEdges_le (p : Pulse) (s : State) : exactEdges p s ≤ 2 := by
  unfold exactEdges
  split <;> split <;> decide

/-- The confidence of a preamble, at most 8, does not wrap. -/
theorem newConf_toNat (hconf : s.ps.conf.toNat ≤ 6) :
    (newConf p s).toNat = s.ps.conf.toNat + exactEdges p s := by
  have hle := exactEdges_le p s
  rw [newConf_eq, Nat.add_assoc, ← exactEdges, BitVec.toNat_ofNat]
  omega

theorem continues_of_near
    (h : (p.start - expectedRise s).toInt.natAbs ≤ tol s.cfg.rateSel ∧
      (p.stop - expectedFall s).toInt.natAbs ≤ tol s.cfg.rateSel) : continues p s = true := by
  rwa [continues_iff, ← tol_eq s.cfg.rateSel]

end Preamble

/-- Settles O25: one rule of SYNC for each of the four pulses, the confidence staying below its range. -/
theorem preambleWithinToleranceAnchors : Obligations.PreambleWithinToleranceAnchors := by
  intro q0 q1 q2 q3 s h rise fall near score hk hwidth hnear1 hnear2 hnear3
  let s1 := partialMatch 1 q0.start (firstConf q0 s) s
  let s2 := partialMatch 2 q0.start (newConf q1 s1) s
  let s3 := partialMatch 3 q0.start (newConf q2 s2) s
  have hsync0 : sync q0 s = s1 := by rw [sync_searching hk, first_of_nominal hwidth]; rfl
  have hsync1 : sync q1 s1 = s2 := sync_of_continues (.inl rfl) (continues_of_near hnear1)
  have hsync2 : sync q2 s2 = s3 := sync_of_continues (.inr rfl) (continues_of_near hnear2)
  have hsync3 : sync q3 s3 =
      emitAnchor (anchorOf q3 s3) (partialMatch 0 q0.start (newConf q3 s3) s) :=
    sync_of_completes rfl (continues_of_near hnear3)
  have hmatch : matchPulses [q0, q1, q2, q3] s =
      emitAnchor (anchorOf q3 s3) (partialMatch 0 q0.start (newConf q3 s3) s) := by
    show sync q3 (sync q2 (sync q1 (sync q0 s))) = _
    rw [hsync0, hsync1, hsync2, hsync3]
  have hconf0 : s1.ps.conf.toNat = 1 + (if q0.width.toNat = h then 1 else 0) := firstConf_toNat
  have hconf0_le : s1.ps.conf.toNat ≤ 2 := by rw [hconf0]; split <;> decide
  have hscore1 : exactEdges q1 s1 ≤ 2 := exactEdges_le q1 s1
  have hscore2 : exactEdges q2 s2 ≤ 2 := exactEdges_le q2 s2
  have hconf1 : s2.ps.conf.toNat = s1.ps.conf.toNat + exactEdges q1 s1 := newConf_toNat (by omega)
  have hconf2 : s3.ps.conf.toNat = s2.ps.conf.toNat + exactEdges q2 s2 := newConf_toNat (by omega)
  have hconf3 : (newConf q3 s3).toNat = s3.ps.conf.toNat + exactEdges q3 s3 := newConf_toNat (by omega)
  rw [hmatch]
  refine ⟨anchorOf q3 s3, rfl, rfl, rfl, rfl, rfl, ?_⟩
  rw [← hconf0]
  show (newConf q3 s3).toNat = s1.ps.conf.toNat + exactEdges q1 s1 + exactEdges q2 s2 + exactEdges q3 s3
  rw [hconf3, hconf2, hconf1]

end Sys2Proof.Machine

/-! SUPPORT. The operations of the Framer (43_framer R161 to R168), from the rules of FRAME.OPEN and FRAME.ACC, and the end of
a slot written out: its last sample joins the second half, so the slot's symbol is that of `endedSlot`. -/

namespace Sys2Proof.Machine

/-! ## FRAME.OPEN -/

theorem preamble_samples (r : Rate) :
    BitVec.ofNat 64 (preLen * half r) = match r with | .msps8 => 64 | .msps10 => 80 := by
  cases r <;> rfl

/-- Settles O26, one rule of FRAME.OPEN for each mode. -/
theorem frameOpenOrDrop : Obligations.FrameOpenOrDrop := by
  refine fun a s => ⟨fun hidle => ?_, fun hactive => ?_⟩
  · show Host.Outcome.next (frameOpen a s) = _
    rw [frameOpen_of_idle hidle, openedWindow, preamble_samples]
    rfl
  · exact congrArg Host.Outcome.next (frameOpen_of_active hactive)

/-! ## FRAME.LEN -/

/-- The number of five bits, the first one the most significant (00_scope R9). -/
theorem formatOf_five (b0 b1 b2 b3 b4 : Bool) :
    formatOf [b0, b1, b2, b3, b4] =
      16 * b0.toNat + 8 * b1.toNat + 4 * b2.toNat + 2 * b3.toNat + b4.toNat := by
  revert b0 b1 b2 b3 b4
  decide

theorem symBit_toNat (x : Sym) : (symBit x).toNat = if x = .one then 1 else 0 := by
  cases x <;> rfl

theorem take_five_toList (v : Vector Sym 112) :
    v.toList.take 5 = [v[0], v[1], v[2], v[3], v[4]] := by
  refine List.ext_getElem (by simp) fun i hi _ => ?_
  have hi : i < 5 := by simpa using hi
  rw [List.getElem_take, Vector.getElem_toList]
  interval_cases i <;> rfl

/-- Settles O33: a provisional bit counts 1 exactly for the symbol ONE. -/
theorem frameLenSelectsLength : Obligations.FrameLenSelectsLength := by
  intro s b
  have hformat : formatOf (provisional (s.cand.sym.toList.take 5)) =
      16 * b 0 + 8 * b 1 + 4 * b 2 + 2 * b 3 + b 4 := by
    rw [take_five_toList]
    simp only [provisional, List.map_cons, List.map_nil, formatOf_five, symBit_toNat]
    rfl
  show Host.Outcome.next (frameLen s) = _
  rw [frameLen, selectLength, lengthOf, isLong, hformat]
  rfl

/-! ## FRAME.ACC -/

/-- Settles O27: no sample of a window is due. -/
theorem frameAccOutsideWindow : Obligations.FrameAccOutsideWindow := by
  intro e s houtside
  have hbefore : ¬(s.fr.mode = .active ∧ 0 ≤ (s.pos - s.fr.dStart).toInt) := by
    rintro ⟨hactive, hreached⟩
    obtain hidle | hneg := houtside
    · rw [hidle] at hactive
      cases hactive
    · omega
  rw [exec_frameAcc, frameAcc_outside hbefore]

section SlotEnd

variable {e : EnvSample} {s : State}

/-- The last sample of a slot joins its second half (R163, R164). -/
theorem sampleAdded_last (hend : windowIndex s % spu s.fr.rate + 1 = spu s.fr.rate) :
    sampleAdded e s =
      setFr { s.fr with e1 := (endedSlot e s).e2, b1 := (endedSlot e s).b2 } s := by
  have hlast : ¬windowIndex s % spu s.fr.rate < half s.fr.rate := by
    have := half_pos s.fr.rate
    have := spu_eq_two_half s.fr.rate
    omega
  rw [sampleAdded, addSample_eq _ _ _ _ (half_pos _), if_neg hlast]
  cases hbad : e.bad <;> simp [endedSlot, hbad]

/-- `s` with the symbol of the slot that `e` ends stored, the next slot begun and the window length `n`. -/
def slotEnded (e : EnvSample) (n : FrameLen) (s : State) : State :=
  { s with
    fr := { s.fr with e0 := 0, e1 := 0, b0 := false, b1 := false, j := s.fr.j + 1, n := n },
    cand := storeAfter s.fr.j (symbolOf s.cfg.threshSel (endedSlot e s)) s.cand,
    host := hostAfter s.fr.j (symbolOf s.cfg.threshSel (endedSlot e s)) s.host }

theorem slotStored_sampleAdded
    (hend : windowIndex s % spu s.fr.rate + 1 = spu s.fr.rate) :
    slotStored (sampleAdded e s) = slotEnded e (lengthAfter (sampleAdded e s)) s := by
  rw [sampleAdded_last hend]
  rfl

/-- The sample that completes a slot ends it, and CLOSE follows if it was the last slot of the window (R164). -/
theorem frameAcc_of_slot_end (hmode : s.fr.mode = .active)
    (hreached : 0 ≤ (s.pos - s.fr.dStart).toInt)
    (hend : windowIndex s % spu s.fr.rate + 1 = spu s.fr.rate) (hslot : s.streams.slot = []) :
    frameAcc e s =
      if (s.fr.j + 1).toNat = (lengthAfter (sampleAdded e s)).slots then
        closeFrame (slotEnded e (lengthAfter (sampleAdded e s)) s)
      else slotEnded e (lengthAfter (sampleAdded e s)) s := by
  have hadded : (sampleAdded e s).streams.slot = [] := hslot
  have hcomplete : frameAcc e s = completeSlot (sampleAdded e s) :=
    frameAcc_slot_end hmode hreached hend
  rw [hcomplete, completeSlot_eq hadded, slotStored_sampleAdded hend]
  rfl

/-- A slot other than slot 4 leaves the window length (R164). -/
theorem lengthAfter_sampleAdded_of_ne (hj : s.fr.j ≠ 4) :
    lengthAfter (sampleAdded e s) = s.fr.n := by
  obtain ⟨e0, e1, b0, b1, hadd⟩ :=
    addSample_writes e s.fr (windowIndex s % spu s.fr.rate / half s.fr.rate)
  have hnext : ¬(s.fr.j + 1).toNat = 5 := by bv_omega
  rw [sampleAdded, hadd]
  exact if_neg hnext

/-- Slot 4 selects the window length by the symbol store that holds its own symbol (R164, R167). -/
theorem lengthAfter_sampleAdded_of_four
    (hend : windowIndex s % spu s.fr.rate + 1 = spu s.fr.rate) (hj : s.fr.j = 4) :
    lengthAfter (sampleAdded e s) = lengthOf s.params (provisional
      ((storeAfter 4 (symbolOf s.cfg.threshSel (endedSlot e s)) s.cand).sym.toList.take 5)) := by
  have hnext : (s.fr.j + 1).toNat = 5 := by rw [hj]; rfl
  rw [sampleAdded_last hend, ← hj]
  exact if_pos hnext

theorem frameAcc_of_inner_slot_end (hmode : s.fr.mode = .active)
    (hreached : 0 ≤ (s.pos - s.fr.dStart).toInt)
    (hend : windowIndex s % spu s.fr.rate + 1 = spu s.fr.rate) (hslot : s.streams.slot = [])
    (hfour : s.fr.j ≠ 4) (hlast : s.fr.j.toNat + 1 ≠ s.fr.n.slots) :
    frameAcc e s = slotEnded e s.fr.n s := by
  have hopen : ¬(s.fr.j + 1).toNat = s.fr.n.slots := by
    have := slots_bounds s.fr.n
    bv_omega
  rw [frameAcc_of_slot_end hmode hreached hend hslot, lengthAfter_sampleAdded_of_ne hfour,
    if_neg hopen]

end SlotEnd

/-- Settles O30: the slot ends, its length stays and no CLOSE follows. -/
theorem slotEndStoresSymbol : Obligations.SlotEndStoresSymbol := by
  intro e s hmode hreached hend hslot hfour hlast x
  rw [exec_frameAcc, frameAcc_of_inner_slot_end hmode hreached hend hslot hfour hlast]
  rfl

/-- Settles O31: the slot ends and FRAME.LEN reads its symbol; five slots are no whole window. -/
theorem slotFourSelectsLength : Obligations.SlotFourSelectsLength := by
  intro e s hmode hreached hend hslot hfour x cand
  have hopen : ∀ n : FrameLen, ¬(s.fr.j + 1).toNat = n.slots := by
    intro n
    have := slots_bounds n
    rw [hfour]
    show ¬5 = n.slots
    omega
  rw [exec_frameAcc, frameAcc_of_slot_end hmode hreached hend hslot, if_neg (hopen _),
    lengthAfter_sampleAdded_of_four hend hfour, slotEnded, hfour]
  rfl

/-- Settles O32: the slot ends and CLOSE emits the candidate of the new symbol store. -/
theorem lastSlotClosesWindow : Obligations.LastSlotClosesWindow := by
  intro e s hmode hreached hend hslot hlast x cand
  have hslots := slots_bounds s.fr.n
  have hfour : s.fr.j ≠ 4 := by
    intro hj
    rw [hj] at hlast
    have : (4 : BitVec 7).toNat = 4 := rfl
    omega
  have hclosed : (s.fr.j + 1).toNat = s.fr.n.slots := by bv_omega
  rw [exec_frameAcc, frameAcc_of_slot_end hmode hreached hend hslot,
    lengthAfter_sampleAdded_of_ne hfour, if_pos hclosed]
  rfl

end Sys2Proof.Machine

/-! SUPPORT. A whole slot of good samples through the Framer (43_framer R163 to R165): the exact state in the middle of the
slot, and the symbol that the last sample leaves. -/

namespace Sys2Proof.Machine

theorem accumulate_concat (es : List EnvSample) (e : EnvSample) (s : State) :
    accumulate (es ++ [e]) s = endTick e (frameAcc e (accumulate es s)) := by
  simp [accumulate, List.foldl_append]

theorem ampSum_concat (es : List EnvSample) (e : EnvSample) :
    ampSum (es ++ [e]) = ampSum es + e.amp.toNat := by
  simp [ampSum]

theorem ampSum_le {es : List EnvSample} (h : ∀ e ∈ es, e.amp.toNat ≤ 46340) :
    ampSum es ≤ es.length * 46340 := by
  have := List.sum_le_card_nsmul (es.map fun e => e.amp.toNat) 46340 (by simpa using h)
  simpa [ampSum] using this

/-- `s`, at the first position of a slot, after the good samples `es` of that slot: each half-slot holds the sum of its
own. -/
def midSlot (es : List EnvSample) (hist : Vector EnvSample 2) (s : State) : State :=
  { s with
    pos := s.pos + BitVec.ofNat 64 es.length, pd := { s.pd with hist := hist },
    fr := { s.fr with
      e0 := BitVec.ofNat 18 (ampSum (es.take (half s.fr.rate))),
      e1 := BitVec.ofNat 18 (ampSum (es.drop (half s.fr.rate))) } }

/-- A window whose slot has just begun: no energy, no bad sample. -/
theorem FrState.begun_eq {fr : FrState} (h0 : fr.e0 = 0) (h1 : fr.e1 = 0) (hb0 : fr.b0 = false)
    (hb1 : fr.b1 = false) : { fr with e0 := 0, e1 := 0, b0 := false, b1 := false } = fr := by
  cases fr
  cases h0; cases h1; cases hb0; cases hb1
  rfl

section Slot

variable {s : State} {es : List EnvSample} {hist : Vector EnvSample 2} {e : EnvSample}

theorem midSlot_nil (h0 : s.fr.e0 = 0) (h1 : s.fr.e1 = 0) (hb0 : s.fr.b0 = false)
    (hb1 : s.fr.b1 = false) : midSlot [] s.pd.hist s = s := by
  have hfr : (midSlot [] s.pd.hist s).fr =
      { s.fr with e0 := 0, e1 := 0, b0 := false, b1 := false } := by
    simp [midSlot, ampSum, hb0, hb1]
  have hpos : (midSlot [] s.pd.hist s).pos = s.pos := BitVec.add_zero _
  calc midSlot [] s.pd.hist s
      = { s with pos := (midSlot [] s.pd.hist s).pos, fr := (midSlot [] s.pd.hist s).fr } := rfl
    _ = s := by rw [hfr, FrState.begun_eq h0 h1 hb0 hb1, hpos]

/-- A position inside the slot that begins at `s.pos` is reached, and stands at its distance from that begin. -/
theorem midSlot_place
    (hbegin : (s.pos - s.fr.dStart).toNat = s.fr.j.toNat * spu s.fr.rate)
    (hlen : es.length < spu s.fr.rate) :
    0 ≤ ((midSlot es hist s).pos - s.fr.dStart).toInt ∧
      windowIndex (midSlot es hist s) % spu s.fr.rate = es.length := by
  have hspu : spu s.fr.rate ≤ 10 := by cases s.fr.rate <;> decide
  have hstart : s.fr.j.toNat * spu s.fr.rate ≤ 127 * 10 :=
    Nat.mul_le_mul (Nat.le_of_lt_succ s.fr.j.isLt) hspu
  have hmove : s.pos + BitVec.ofNat 64 es.length - s.fr.dStart =
      s.pos - s.fr.dStart + BitVec.ofNat 64 es.length := by ring
  have hidx : windowIndex (midSlot es hist s) = s.fr.j.toNat * spu s.fr.rate + es.length := by
    show (s.pos + BitVec.ofNat 64 es.length - s.fr.dStart).toNat = _
    rw [hmove, BitVec.toNat_add, hbegin, BitVec.toNat_ofNat]
    omega
  constructor
  · show 0 ≤ (s.pos + BitVec.ofNat 64 es.length - s.fr.dStart).toInt
    have hsmall : (s.pos + BitVec.ofNat 64 es.length - s.fr.dStart).toNat < 2 ^ 63 := by
      show windowIndex (midSlot es hist s) < _
      omega
    rw [BitVec.toInt_eq_toNat_of_lt (by omega)]
    exact Int.natCast_nonneg _
  · rw [hidx, Nat.mul_add_mod_self_right, Nat.mod_eq_of_lt hlen]

theorem energy_ofNat_add (x y : Nat) :
    BitVec.ofNat 18 ((BitVec.ofNat 18 x).toNat + y) = BitVec.ofNat 18 (x + y) := by
  rw [BitVec.ofNat_add, BitVec.ofNat_toNat, BitVec.setWidth_eq, BitVec.ofNat_add]

/-- One more good sample joins the sum of its half. -/
theorem addSample_midSlot (hgood : e.bad = false) :
    addSample e (midSlot es hist s).fr (es.length / half s.fr.rate) =
      (midSlot (es ++ [e]) hist s).fr := by
  rw [addSample_eq _ _ _ _ (half_pos _)]
  by_cases hfirst : es.length < half s.fr.rate
  · have htake : (es ++ [e]).take (half s.fr.rate) = es ++ [e] :=
      List.take_of_length_le (by simpa using hfirst)
    have hdrop : (es ++ [e]).drop (half s.fr.rate) = [] :=
      List.drop_of_length_le (by simpa using hfirst)
    simp [midSlot, hfirst, hgood, htake, hdrop, List.take_of_length_le hfirst.le,
      List.drop_of_length_le hfirst.le, ampSum_concat, energy_ofNat_add, -BitVec.toNat_ofNat]
  · have hle : half s.fr.rate ≤ es.length := not_lt.1 hfirst
    simp [midSlot, hfirst, hgood, List.take_append_of_le_length hle,
      List.drop_append_of_le_length hle, ampSum_concat, energy_ofNat_add, -BitVec.toNat_ofNat]

/-- Good samples that do not fill the slot leave it in its middle. -/
theorem accumulate_eq_midSlot
    (hmode : s.fr.mode = .active)
    (hbegin : (s.pos - s.fr.dStart).toNat = s.fr.j.toNat * spu s.fr.rate)
    (he0 : s.fr.e0 = 0) (he1 : s.fr.e1 = 0) (hb0 : s.fr.b0 = false) (hb1 : s.fr.b1 = false)
    (hgood : ∀ e ∈ es, e.bad = false) (hlen : es.length < spu s.fr.rate) :
    ∃ hist, accumulate es s = midSlot es hist s := by
  induction es using List.reverseRecOn with
  | nil =>
    exact ⟨s.pd.hist, (midSlot_nil he0 he1 hb0 hb1).symm⟩
  | append_singleton es e ih =>
    have hlen : es.length + 1 < spu s.fr.rate := by simpa using hlen
    obtain ⟨hist, hacc⟩ := ih (fun x hx => hgood x (by simp [hx])) (by omega)
    obtain ⟨hreached, hplace⟩ := midSlot_place (hist := hist) hbegin (by omega : es.length < _)
    have hinner : windowIndex (midSlot es hist s) % spu s.fr.rate + 1 ≠ spu s.fr.rate := by omega
    have hstep := frameAcc_inside_slot (e := e) (s := midSlot es hist s) hmode hreached hinner
    have hpos : s.pos + BitVec.ofNat 64 es.length + 1 =
        s.pos + BitVec.ofNat 64 (es ++ [e]).length := by
      rw [List.length_append, BitVec.ofNat_add, ← BitVec.add_assoc]
      rfl
    refine ⟨#v[e, hist[0]], ?_⟩
    calc accumulate (es ++ [e]) s
        = endTick e (frameAcc e (midSlot es hist s)) := by rw [accumulate_concat, hacc]
      _ = endTick e (setFr (addSample e (midSlot es hist s).fr (es.length / half s.fr.rate))
            (midSlot es hist s)) := by rw [hstep, ← hplace]; rfl
      _ = endTick e (setFr (midSlot (es ++ [e]) hist s).fr (midSlot es hist s)) := by
          rw [addSample_midSlot (hgood e (by simp))]
      _ = midSlot (es ++ [e]) #v[e, hist[0]] s :=
          congrArg (fun pos => { midSlot (es ++ [e]) #v[e, hist[0]] s with pos := pos }) hpos

theorem symbolOf_of_clear (t : BitVec 4) {o : SlotObs} (h1 : o.b1 = false) (h2 : o.b2 = false) :
    symbolOf t o =
      if exceeds t o.e1.toNat o.e2.toNat = true then .one
      else if exceeds t o.e2.toNat o.e1.toNat = true then .zero else .ambig := by
  simp [symbolOf, h1, h2]

/-- The last good sample of a slot leaves the sums of its halves: they fit their 18 bits (R165). -/
theorem endedSlot_midSlot (hb0 : s.fr.b0 = false) (hb1 : s.fr.b1 = false)
    (hlen : es.length + 1 = spu s.fr.rate)
    (hgood : ∀ x ∈ es ++ [e], x.bad = false ∧ x.amp.toNat ≤ 46340) :
    (endedSlot e (midSlot es hist s)).b1 = false ∧ (endedSlot e (midSlot es hist s)).b2 = false ∧
    (endedSlot e (midSlot es hist s)).e1.toNat = ampSum ((es ++ [e]).take (half s.fr.rate)) ∧
    (endedSlot e (midSlot es hist s)).e2.toNat = ampSum ((es ++ [e]).drop (half s.fr.rate)) := by
  obtain ⟨hbad, -⟩ := hgood e (by simp)
  have hhalf : half s.fr.rate ≤ 5 := by cases s.fr.rate <;> decide
  have htwo := spu_eq_two_half s.fr.rate
  have hpos := half_pos s.fr.rate
  have hle : half s.fr.rate ≤ es.length := by omega
  have hE1 := ampSum_le (es := (es ++ [e]).take (half s.fr.rate))
    fun x hx => (hgood x (List.mem_of_mem_take hx)).2
  have hE2 := ampSum_le (es := (es ++ [e]).drop (half s.fr.rate))
    fun x hx => (hgood x (List.mem_of_mem_drop hx)).2
  rw [List.length_take, List.length_append, List.length_singleton] at hE1
  rw [List.length_drop, List.length_append, List.length_singleton] at hE2
  rw [List.take_append_of_le_length hle] at hE1 ⊢
  rw [List.drop_append_of_le_length hle, ampSum_concat] at hE2 ⊢
  refine ⟨hb0, by simp [endedSlot, midSlot, hb1, hbad], ?_, ?_⟩
  · show (BitVec.ofNat 18 _).toNat = _
    rw [BitVec.toNat_ofNat]
    omega
  · simp only [endedSlot, midSlot, hbad, Bool.false_eq_true, if_false, BitVec.toNat_ofNat]
    omega

end Slot

/-- Settles O29: all samples but the last leave the slot in its middle, the last one ends it. -/
theorem slotBecomesSymbolOfItsEnergies : Obligations.SlotBecomesSymbolOfItsEnergies := by
  intro es s hmode hslot hbegin he0 he1 hb0 hb1 hlast hfour hlen hgood t E1 E2 x
  obtain rfl | ⟨init, last, rfl⟩ := List.eq_nil_or_concat' es
  · exact absurd hlen (spu_pos _).ne
  have hinit : init.length + 1 = spu s.fr.rate := by simpa using hlen
  obtain ⟨hist, hmid⟩ := accumulate_eq_midSlot (es := init) hmode hbegin he0 he1 hb0 hb1
    (fun y hy => (hgood y (by simp [hy])).1) (by omega)
  obtain ⟨hreached, hplace⟩ := midSlot_place (hist := hist) hbegin (by omega : init.length < _)
  obtain ⟨hclear1, hclear2, hsum1, hsum2⟩ := endedSlot_midSlot (hist := hist) hb0 hb1 hinit hgood
  have hsymbol : symbolOf s.cfg.threshSel (endedSlot last (midSlot init hist s)) = x := by
    rw [symbolOf_of_clear _ hclear1 hclear2, hsum1, hsum2]
  have hend : windowIndex (midSlot init hist s) % spu s.fr.rate + 1 = spu s.fr.rate := by omega
  have hfour' : s.fr.j ≠ 4 := fun h => hfour (by rw [h]; rfl)
  have hstep : frameAcc last (midSlot init hist s) = slotEnded last s.fr.n (midSlot init hist s) :=
    frameAcc_of_inner_slot_end hmode hreached hend hslot hfour' hlast.ne
  have ht : t = endTick last (slotEnded last s.fr.n (midSlot init hist s)) := by
    rw [← hstep, ← hmid, ← accumulate_concat]
  have hcand : t.cand = storeAfter s.fr.j x s.cand := by
    rw [ht, ← hsymbol]
    rfl
  rw [hcand]
  refine ⟨?_, rfl, ?_, ?_, ?_, ?_⟩
  · rw [ht, ← FrState.begun_eq he0 he1 hb0 hb1]; rfl
  · simp only [storeAfter]
    split <;> simp
  · rw [ht]; rfl
  · rw [ht]; rfl
  · rw [ht]; rfl

end Sys2Proof.Machine

/-! SUPPORT. Bit vectors of frames: their place in a Decoded Frame (30_encoding R79), what an inversion does to them
(46_error_corrector R202), and the linearity of the syndrome, by which a set of flips changes it by the syndromes of the
single flips (45_parity_checker R195). -/

namespace Sys2Proof.Machine

/-! ## Bits as a number -/

theorem msbNat_concat (v : List Bool) (b : Bool) : msbNat (v ++ [b]) = 2 * msbNat v + b.toNat := by
  simp [msbNat]

/-- The bit of a number at the place of a bit of the vector, the earlier bit the more significant. -/
theorem testBit_msbNat (v : List Bool) {i : Nat} (h : i < v.length) :
    (msbNat v).testBit (v.length - 1 - i) = v[i] := by
  induction v using List.reverseRecOn with
  | nil => simp at h
  | append_singleton v b ih =>
    rw [List.length_append, List.length_singleton] at h ⊢
    rw [msbNat_concat, Nat.add_sub_cancel]
    obtain hlt | rfl := Nat.lt_succ_iff_lt_or_eq.1 h
    · have hplace : v.length - i = (v.length - 1 - i) + 1 := by omega
      rw [List.getElem_append_left hlt, ← ih hlt, hplace, Nat.testBit_succ]
      congr 1
      cases b
      · simp
      · simp; omega
    · cases b <;> simp

/-! ## The bits of a Decoded Frame -/

theorem frameOf_long (a : Anchor) (len : FrameLen) (w : List Bool) (st : ParityStatus)
    (dist : BitVec 2) : (frameOf a len w st dist).long = len := rfl

/-- A frame in its record stands first bit first from bit 111 down. -/
theorem frameBits_getLsbD {len : FrameLen} {w : List Bool} (hw : w.length = len.slots) {i : Nat}
    (h : i < w.length) : (frameBits w).getLsbD (111 - i) = w[i] := by
  have hslots := slots_bounds len
  have hplace : 111 - i - (112 - w.length) = w.length - 1 - i := by omega
  rw [frameBits, BitVec.getLsbD_ofNat, Nat.testBit_mul_two_pow, hplace, testBit_msbNat w h,
    decide_eq_true (by omega : 112 - w.length ≤ 111 - i), decide_eq_true (by omega : 111 - i < 112)]
  rfl

theorem frameBitList_frameOf {len : FrameLen} {w : List Bool} (hw : w.length = len.slots)
    (a : Anchor) (st : ParityStatus) (dist : BitVec 2) :
    frameBitList (frameOf a len w st dist) = w := by
  refine List.ext_getElem (by simp [frameBitList, frameOf_long, hw]) fun i _ hi => ?_
  rw [← frameBits_getLsbD hw hi]
  simp [frameBitList, frameOf]

/-! ## Inversion -/

theorem flipBits_cons (v : List Bool) (p : Nat) (f : List Nat) :
    flipBits v (p :: f) = flipBits (v.modify p not) f := rfl

@[simp] theorem flipBits_length (v : List Bool) (f : List Nat) :
    (flipBits v f).length = v.length := by
  induction f generalizing v with
  | nil => rfl
  | cons p f ih => rw [flipBits_cons, ih, List.length_modify]

/-- A set of positions is inverted, every other position kept. -/
theorem flipBits_getElem {f : List Nat} (hf : f.Nodup) (v : List Bool) {i : Nat}
    (h : i < (flipBits v f).length) :
    (flipBits v f)[i] = xor (v[i]'(by simpa using h)) (decide (i ∈ f)) := by
  induction f generalizing v with
  | nil => simp [flipBits]
  | cons p f ih =>
    obtain ⟨hp, hf⟩ := List.nodup_cons.1 hf
    simp only [flipBits_cons] at h ⊢
    rw [ih hf _ h, List.getElem_modify]
    by_cases hip : p = i
    · subst hip
      simp [hp]
    · simp [hip, Ne.symm hip]

/-- Only the set of the positions counts, not their order. -/
theorem flipBits_perm {f g : List Nat} (hf : f.Nodup) (hfg : f.Perm g) (v : List Bool) :
    flipBits v f = flipBits v g := by
  refine List.ext_getElem (by simp) fun i _ _ => ?_
  rw [flipBits_getElem hf, flipBits_getElem (hfg.nodup_iff.1 hf)]
  simp only [hfg.mem_iff]

/-- The number of inverted positions is the distance. -/
theorem diffCount_flipBits {f : List Nat} (hf : f.Nodup) {v : List Bool}
    (hlt : ∀ p ∈ f, p < v.length) : diffCount (flipBits v f) v = f.length := by
  have hdiff : List.zipWith xor (flipBits v f) v =
      (List.range v.length).map fun i => decide (i ∈ f) := by
    refine List.ext_getElem (by simp) fun i _ _ => ?_
    rw [List.getElem_zipWith, flipBits_getElem hf, Bool.xor_right_comm]
    simp
  have hset : ((List.range v.length).filter fun i => decide (i ∈ f)).Perm f := by
    refine (List.perm_ext_iff_of_nodup (List.nodup_range.filter _) hf).2 fun i => ?_
    simpa using hlt i
  rw [diffCount, hdiff, ← hset.length_eq, ← List.countP_eq_length_filter, List.count,
    List.countP_map]
  exact List.countP_congr fun i _ => by simp

/-! ## Linearity of the syndrome -/

/-- One more bit shifts the register and takes the generator off if a 1 falls out. -/
theorem crcStep_eq (poly r : Syndrome) (b : Bool) :
    crcStep poly r b =
      ((r <<< 1) ||| (BitVec.ofBool b).setWidth 24) ^^^ (if r.getLsbD 23 then poly else 0) := by
  unfold crcStep
  split <;> simp

theorem shiftIn_xor (r r' : Syndrome) (b b' : Bool) :
    ((r ^^^ r') <<< 1) ||| (BitVec.ofBool (xor b b')).setWidth 24 =
      ((r <<< 1) ||| (BitVec.ofBool b).setWidth 24) ^^^
        ((r' <<< 1) ||| (BitVec.ofBool b').setWidth 24) := by
  ext i hi
  cases i with
  | zero => cases b <;> cases b' <;> simp
  | succ i => simp

theorem ite_xor (poly : Syndrome) (c c' : Bool) :
    (if xor c c' then poly else 0) = (if c then poly else 0) ^^^ (if c' then poly else 0) := by
  cases c <;> cases c' <;> simp

theorem crcStep_xor (poly r r' : Syndrome) (b b' : Bool) :
    crcStep poly (r ^^^ r') (xor b b') = crcStep poly r b ^^^ crcStep poly r' b' := by
  rw [crcStep_eq, crcStep_eq, crcStep_eq, shiftIn_xor, BitVec.getLsbD_xor, ite_xor]
  ac_rfl

theorem crcFold_xor (poly : Syndrome) {v w : List Bool} (h : v.length = w.length)
    (r r' : Syndrome) :
    (List.zipWith xor v w).foldl (crcStep poly) (r ^^^ r') =
      v.foldl (crcStep poly) r ^^^ w.foldl (crcStep poly) r' := by
  induction v generalizing w r r' with
  | nil =>
    obtain rfl := List.length_eq_zero_iff.1 h.symm
    rfl
  | cons b v ih =>
    obtain ⟨b', w, rfl⟩ := List.exists_cons_of_length_pos (l := w) (by rw [← h]; simp)
    rw [List.zipWith_cons_cons, List.foldl_cons, List.foldl_cons, List.foldl_cons, crcStep_xor]
    exact ih (by simpa using h) _ _

theorem syndrome_xor (poly : Syndrome) {v w : List Bool} (h : v.length = w.length) :
    syndrome poly (List.zipWith xor v w) = syndrome poly v ^^^ syndrome poly w :=
  crcFold_xor poly h 0 0

/-- Inverting one position adds the vector of a single 1 there. -/
theorem modify_not_eq_xor (v : List Bool) (p : Nat) :
    v.modify p not = List.zipWith xor v (unitBits v.length p) := by
  refine List.ext_getElem (by simp [unitBits]) fun i _ _ => ?_
  rw [List.getElem_modify, List.getElem_zipWith]
  by_cases hip : p = i
  · simp [unitBits, hip]
  · simp [unitBits, hip]

theorem syndrome_modify (poly : Syndrome) (v : List Bool) (p : Nat) :
    syndrome poly (v.modify p not) = syndrome poly v ^^^ flipSyndrome poly v.length p := by
  rw [modify_not_eq_xor v p, syndrome_xor poly (by simp [unitBits])]
  rfl

/-- The residue of a flip-set is the syndrome after the inversion. -/
theorem syndrome_flipBits (poly : Syndrome) (v : List Bool) (f : List Nat) :
    syndrome poly (flipBits v f) = residue poly v.length (syndrome poly v) f := by
  induction f generalizing v with
  | nil => rfl
  | cons p f ih =>
    rw [flipBits_cons, ih, List.length_modify, syndrome_modify]
    rfl

/-- The order of the positions does not matter to the residue. -/
theorem residue_perm {f g : List Nat} (hfg : f.Perm g) (poly : Syndrome) (n : Nat)
    (syn : Syndrome) : residue poly n syn f = residue poly n syn g :=
  hfg.foldl_eq' (fun _ _ _ _ _ => by ac_rfl) syn

end Sys2Proof.Machine

/-! SUPPORT. The search of the corrector (46_error_corrector R201 to R204): it tries every set of 1 to `MAX_DIST` positions of
the frame in one order, so what it finds reconciles the bits, and if it finds nothing no set of flips does. -/

namespace Sys2Proof.Machine

/-! ## The sets it tries -/

theorem priorityList_perm (sym : List Sym) : (priorityList sym).Perm (List.range sym.length) := by
  have h := List.filter_append_perm (fun i => decide (sym[i]? = some .ambig))
    (List.range sym.length)
  simpa [priorityList] using h

theorem priorityList_nodup (sym : List Sym) : (priorityList sym).Nodup :=
  (priorityList_perm sym).nodup_iff.2 List.nodup_range

theorem mem_priorityList {sym : List Sym} {i : Nat} : i ∈ priorityList sym ↔ i < sym.length := by
  rw [(priorityList_perm sym).mem_iff, List.mem_range]

/-- Every selection of ranks in their order is listed. -/
theorem mem_flipSets_of_sublist {f l : List Nat} (h : f.Sublist l) : f ∈ flipSets f.length l := by
  induction h with
  | slnil => simp [flipSets]
  | @cons f l p h ih =>
    cases f with
    | nil => simp [flipSets]
    | cons q f => simpa [flipSets] using Or.inr ih
  | @cons_cons f l p h ih => simp [flipSets, ih]

theorem mem_searchOrder_iff {m : Nat} {l f : List Nat} :
    f ∈ searchOrder m l ↔ f.Sublist l ∧ 1 ≤ f.length ∧ f.length ≤ m := by
  constructor
  · intro hf
    obtain ⟨k, -, hk⟩ := List.mem_flatMap.1 hf
    exact ⟨(flipSets_sublist (k + 1) l f hk).1, searchOrder_length m l f hf⟩
  · rintro ⟨hsub, hpos, hle⟩
    obtain ⟨k, hk⟩ := Nat.exists_eq_add_of_le' hpos
    refine List.mem_flatMap.2 ⟨k, List.mem_range.2 (by omega), ?_⟩
    rw [← hk]
    exact mem_flipSets_of_sublist hsub

/-- The positions of `f` in the order of their ranks. -/
def inRankOrder (sym : List Sym) (f : List Nat) : List Nat :=
  (priorityList sym).filter fun i => decide (i ∈ f)

theorem inRankOrder_perm {sym : List Sym} {f : List Nat} (hf : f.Nodup)
    (hlt : ∀ i ∈ f, i < sym.length) : f.Perm (inRankOrder sym f) := by
  refine (List.perm_ext_iff_of_nodup hf ((priorityList_nodup sym).filter _)).2 fun i => ?_
  rw [List.mem_filter, mem_priorityList, decide_eq_true_eq]
  exact ⟨fun hi => ⟨hlt i hi, hi⟩, And.right⟩

/-! ## What it finds -/

section Found

variable {p : Params} {c : Candidate} {v : List Bool} {syn : Syndrome}

theorem accepted_iff {len : FrameLen} {f : List Nat} : accepted p len v syn f = true ↔
    residue p.crcPoly len.slots syn f = 0 ∧ lengthOf p (flipBits v f) = len := by
  simp [accepted]

/-- A set that reconciles the bits is, in the order of the ranks, one that the search tries and accepts. -/
theorem Reconciles.tried {f : List Nat} (hsym : c.sym.length = c.len.slots)
    (h : Reconciles p c.len v syn f) :
    ∃ g ∈ searchOrder p.maxDist (priorityList c.sym), accepted p c.len v syn g = true := by
  obtain ⟨hnodup, hlt, hpos, hle, hresidue, hlen⟩ := h
  have hperm := inRankOrder_perm (sym := c.sym) hnodup (fun i hi => by rw [hsym]; exact hlt i hi)
  refine ⟨inRankOrder c.sym f, mem_searchOrder_iff.2 ⟨List.filter_sublist, ?_, ?_⟩,
    accepted_iff.2 ⟨?_, ?_⟩⟩
  · rwa [← hperm.length_eq]
  · rwa [← hperm.length_eq]
  · rwa [← residue_perm hperm]
  · rwa [← flipBits_perm hnodup hperm]

/-- The search gives up only if nothing reconciles the bits. -/
theorem not_reconciles_of_findFlips_none (hsym : c.sym.length = c.len.slots)
    (h : findFlips p c v syn = none) (f : List Nat) : ¬Reconciles p c.len v syn f := by
  intro hrec
  obtain ⟨g, htried, haccepted⟩ := hrec.tried hsym
  rw [findFlips_none h g htried] at haccepted
  cases haccepted

/-- What the search finds reconciles the bits. -/
theorem reconciles_of_findFlips_some {f : List Nat} (hsym : c.sym.length = c.len.slots)
    (h : findFlips p c v syn = some f) : Reconciles p c.len v syn f := by
  obtain ⟨htried, haccepted⟩ := findFlips_some h
  obtain ⟨hsub, hpos, hle⟩ := mem_searchOrder_iff.1 htried
  obtain ⟨hresidue, hlen⟩ := accepted_iff.1 haccepted
  refine ⟨hsub.nodup (priorityList_nodup _), fun i hi => ?_, hpos, hle, hresidue, hlen⟩
  rw [← hsym]
  exact mem_priorityList.1 (hsub.subset hi)

end Found

end Sys2Proof.Machine

/-! SUPPORT. What the class of an emitted frame guarantees (46_error_corrector R208), for a candidate that a window left
(43_framer R168), and the candidate through the tick that closes its window. -/

namespace Sys2Proof.Machine

/-! ## The candidate of a window -/

/-- `c` holds the symbols that its window left in the store, counts the ambiguous ones, and has the length that its first
five provisional bits select. -/
structure LeftBy (p : Params) (store : CandStore) (c : Candidate) : Prop where
  sym : c.sym = store.sym.toList.take c.len.slots
  count : c.nAmb.toNat = c.sym.count .ambig
  length : lengthOf p (provisional c.sym) = c.len

theorem lengthOf_take_five (p : Params) (v : List Bool) : lengthOf p (v.take 5) = lengthOf p v := by
  rw [lengthOf, isLong, formatOf, List.take_take, min_self]
  rfl

theorem provisional_take (sym : List Sym) (n : Nat) :
    provisional (sym.take n) = (provisional sym).take n := List.map_take

/-- Behind the frame the store holds no ambiguous symbol. -/
theorem count_take_of_zero {v : Vector Sym 112} {n : Nat}
    (hzero : ∀ k (h : k < 112), n ≤ k → v[k] = .zero) :
    (v.toList.take n).count .ambig = v.toList.count .ambig := by
  have hrest : (v.toList.drop n).count .ambig = 0 := by
    refine List.count_eq_zero.2 fun hmem => ?_
    obtain ⟨i, hi, hget⟩ := List.mem_iff_getElem.1 hmem
    have hi : i < 112 - n := by simpa using hi
    rw [List.getElem_drop, Vector.getElem_toList, hzero (n + i) (by omega) (by omega)] at hget
    cases hget
  conv_rhs => rw [← List.take_append_drop n v.toList, List.count_append, hrest, Nat.add_zero]

section Close

variable {e : EnvSample} {s : State}

theorem slotEnded_leftBy (hmode : s.fr.mode = .active) (h : WindowInv s)
    (hlast : s.fr.j.toNat + 1 = s.fr.n.slots) :
    LeftBy s.params (slotEnded e s.fr.n s).cand (candidateOf (slotEnded e s.fr.n s)) := by
  obtain ⟨-, -, -, -, -, -, hlong, hzero, hcount⟩ := h hmode
  have hslots := slots_bounds s.fr.n
  have hlater : ∀ k (hk : k < 112), s.fr.n.slots ≤ k →
      (slotEnded e s.fr.n s).cand.sym[k] = .zero := fun k hk hle =>
    (storeAfter_later hk (by omega) _ _).trans (hzero k hk (by omega))
  refine ⟨rfl, ?_, ?_⟩
  · have hstored := storeAfter_count (j := s.fr.j) (by omega)
      (symbolOf s.cfg.threshSel (endedSlot e s)) s.cand (hzero _ _ le_rfl) hcount
    exact hstored.trans (count_take_of_zero hlater).symm
  · have hfive : (candidateOf (slotEnded e s.fr.n s)).sym.take 5 = s.cand.sym.toList.take 5 := by
      show ((slotEnded e s.fr.n s).cand.sym.toList.take s.fr.n.slots).take 5 = _
      rw [List.take_take, min_eq_left (by omega)]
      exact storeAfter_take_five (by omega) _ _
    rw [← lengthOf_take_five, ← provisional_take, hfive, ← hlong (by omega)]
    rfl

/-- FRAME.ACC emits no candidate, or the one that an open window beyond its first slot left. -/
theorem frameAcc_candidate (e : EnvSample) (hstreams : s.streams = Streams.empty)
    (h : WindowInv s) :
    (frameAcc e s).streams.candidate = [] ∨
    (s.fr.mode = .active ∧ s.fr.j ≠ 0 ∧ ∃ c, (frameAcc e s).streams.candidate = [c] ∧
      c.anchor = s.fr.anchor ∧ LeftBy s.params (frameAcc e s).cand c) := by
  have hslot : s.streams.slot = [] := by rw [hstreams]; rfl
  have hnone : s.streams.candidate = [] := by rw [hstreams]; rfl
  by_cases hopen : s.fr.mode = .active ∧ 0 ≤ (s.pos - s.fr.dStart).toInt
  · by_cases hend : windowIndex s % spu s.fr.rate + 1 = spu s.fr.rate
    · rw [frameAcc_of_slot_end hopen.1 hopen.2 hend hslot]
      split
      · rename_i hclosed
        have hslots := slots_bounds (lengthAfter (sampleAdded e s))
        have hj : s.fr.j ≠ 4 ∧ s.fr.j ≠ 0 ∧ (s.fr.j + 1).toNat = s.fr.j.toNat + 1 := by bv_omega
        obtain ⟨hfour, hzero, hsucc⟩ := hj
        rw [lengthAfter_sampleAdded_of_ne hfour] at hclosed ⊢
        refine .inr ⟨hopen.1, hzero, candidateOf (slotEnded e s.fr.n s), ?_, rfl,
          slotEnded_leftBy hopen.1 h (by omega)⟩
        show s.streams.candidate ++ [_] = _
        rw [hnone, List.nil_append]
      · exact .inl hnone
    · rw [frameAcc_inside_slot hopen.1 hopen.2 hend]
      exact .inl hnone
  · rw [frameAcc_outside hopen]
    exact .inl hnone

end Close

/-! ## What its class guarantees -/

section Guarantee

variable {p : Params} {cfg : Cfg} {store : CandStore} {c : Candidate} {s : State}

theorem LeftBy.sym_length (h : LeftBy p store c) : c.sym.length = c.len.slots := by
  have := (slots_bounds c.len).2
  rw [h.sym, List.length_take, Vector.length_toList]
  omega

theorem LeftBy.provisional_length (h : LeftBy p store c) :
    (provisional c.sym).length = c.len.slots := by
  rw [provisional, List.length_map, h.sym_length]

theorem LeftBy.clean (h : LeftBy p store c) (hsyn : syndrome p.crcPoly (provisional c.sym) = 0) :
    ClassGuarantee p cfg store (frameOf c.anchor c.len (provisional c.sym) .clean 0) := by
  have hbits := frameBitList_frameOf h.provisional_length c.anchor .clean 0
  unfold ClassGuarantee
  rw [hbits, frameOf_long, ← h.sym]
  exact ⟨h.length, rfl, hsyn, rfl⟩

theorem maxDist_le (hlegal : paramsLegal p = true) : p.maxDist ≤ 3 := by
  simp only [paramsLegal, Bool.and_eq_true, decide_eq_true_eq, and_assoc] at hlegal
  exact hlegal.1

/-- Flips that reconcile the bits leave a frame that divides, at their number from the provisional bits. -/
theorem LeftBy.corrected (h : LeftBy p store c) (hlegal : paramsLegal p = true) {f : List Nat}
    (hf : Reconciles p c.len (provisional c.sym) (syndrome p.crcPoly (provisional c.sym)) f) :
    ClassGuarantee p cfg store (frameOf c.anchor c.len (flipBits (provisional c.sym) f) .corrected
      (BitVec.ofNat 2 f.length)) := by
  obtain ⟨hnodup, hlt, hpos, hle, hresidue, hlen⟩ := hf
  have hbits := frameBitList_frameOf ((flipBits_length _ f).trans h.provisional_length) c.anchor
    .corrected (BitVec.ofNat 2 f.length)
  have hdist : (BitVec.ofNat 2 f.length).toNat = f.length := by
    have := maxDist_le hlegal
    rw [BitVec.toNat_ofNat]
    omega
  rw [← h.provisional_length] at hlt hresidue
  unfold ClassGuarantee
  rw [hbits, frameOf_long, ← h.sym]
  refine ⟨hlen, (syndrome_flipBits _ _ _).trans hresidue, ?_⟩
  show 1 ≤ (BitVec.ofNat 2 f.length).toNat ∧ (BitVec.ofNat 2 f.length).toNat ≤ _ ∧
    diffCount _ _ = (BitVec.ofNat 2 f.length).toNat
  rw [hdist]
  exact ⟨hpos, hle, diffCount_flipBits hnodup hlt⟩

theorem LeftBy.invalid (h : LeftBy p store c) (hpass : cfg.passAll = true)
    (hwhy : p.maxDist < c.sym.count .ambig ∨ (syndrome p.crcPoly (provisional c.sym) ≠ 0 ∧
      ∀ g, ¬Reconciles p c.len (provisional c.sym) (syndrome p.crcPoly (provisional c.sym)) g)) :
    ClassGuarantee p cfg store (frameOf c.anchor c.len (provisional c.sym) .invalid 0) := by
  have hbits := frameBitList_frameOf h.provisional_length c.anchor .invalid 0
  unfold ClassGuarantee
  rw [hbits, frameOf_long, ← h.sym]
  exact ⟨h.length, rfl, rfl, hpass, hwhy⟩

/-- `t` has at most one more record at its frame port than `s`, one with `P`. -/
def AppendsOnly (P : DecodedFrame → Prop) (s t : State) : Prop :=
  ∃ new, t.outq = s.outq ++ new ∧ new.length ≤ 1 ∧ ∀ f ∈ new, P f

theorem SamePort.appendsOnly {t : State} (P : DecodedFrame → Prop) (h : SamePort s t) :
    AppendsOnly P s t := ⟨[], by rw [h.outq, List.append_nil], Nat.zero_le 1, nofun⟩

theorem SamePort.trans_appendsOnly {s t u : State} {P Q : DecodedFrame → Prop} (h : SamePort s t)
    (hPQ : ∀ f, P f → Q f) (k : AppendsOnly P t u) : AppendsOnly Q s u := by
  obtain ⟨new, hnew, hlen, hP⟩ := k
  exact ⟨new, by rw [hnew, h.outq], hlen, fun f hf => hPQ f (hP f hf)⟩

/-- EMIT appends its record unless that is invalid and `pass_all` is off. -/
theorem emit_appendsOnly {P : DecodedFrame → Prop} {a : Anchor} {len : FrameLen} {w : List Bool}
    {st : ParityStatus} {dist : BitVec 2} (s : State)
    (h : ¬(st = .invalid ∧ s.cfg.passAll = false) → P (frameOf a len w st dist)) :
    AppendsOnly P s (emit a len w st dist s) := by
  obtain ⟨-, -, hdrop⟩ | ⟨hshown, hout⟩ := emit_writes a len w st dist s
  · rw [hdrop]; exact (SamePort.refl s).appendsOnly P
  · rw [hout]
    exact ⟨_, rfl, le_rfl, fun f hf => by rw [List.mem_singleton.1 hf]; exact h hshown⟩

/-- What an emitted record says of the candidate that it comes from. -/
def Guaranteed (p : Params) (cfg : Cfg) (store : CandStore) (a : Anchor)
    (f : DecodedFrame) : Prop :=
  f.position = a.position ∧ ClassGuarantee p cfg store f

theorem fix_guaranteed (h : LeftBy s.params store c) (hlegal : paramsLegal s.params = true)
    (hsyn : syndrome s.params.crcPoly (provisional c.sym) ≠ 0) :
    AppendsOnly (Guaranteed s.params s.cfg store c.anchor) s
      (fix c (provisional c.sym) (syndrome s.params.crcPoly (provisional c.sym)) s) := by
  unfold fix
  split
  · rename_i f hfound
    exact emit_appendsOnly s fun _ =>
      ⟨rfl, h.corrected hlegal (reconciles_of_findFlips_some h.sym_length hfound)⟩
  · rename_i hnone
    exact emit_appendsOnly (raise (.uncorrectableFrame c.anchor.position) s) fun hshown =>
      ⟨rfl, h.invalid (by simpa using hshown)
        (.inr ⟨hsyn, not_reconciles_of_findFlips_none h.sym_length hnone⟩)⟩

/-- Each exit of CRC appends only a record with the guarantee of its class (45_parity_checker R192, R193, R197). -/
theorem crc_guaranteed (h : LeftBy s.params store c) (hlegal : paramsLegal s.params = true) :
    AppendsOnly (Guaranteed s.params s.cfg store c.anchor) s (crc c s) := by
  unfold crc
  dsimp only
  split
  · rename_i hgate
    rw [h.count] at hgate
    exact emit_appendsOnly (raise (.uncorrectableFrame c.anchor.position) s) fun hshown =>
      ⟨rfl, h.invalid (by simpa using hshown) (.inl hgate)⟩
  · split
    · rename_i hsyn
      exact emit_appendsOnly s fun _ => ⟨rfl, h.clean hsyn⟩
    · rename_i hsyn
      exact fix_guaranteed (s := raise (.parityMismatch c.anchor.position _) s) h hlegal hsyn

end Guarantee

/-! ## The tick -/

theorem edge_fr (e : EnvSample) (s : State) : (edge e s).fr = s.fr := by
  obtain ⟨pd, new, evs, hedge, -⟩ := edge_writes e s
  rw [hedge]; rfl

theorem takeSync_fr (s : State) : (takePulse sync s).fr = s.fr := by
  obtain ⟨-, h⟩ | ⟨p, l, -, h⟩ := takePulse_cases sync s
  · rw [h]
  · obtain ⟨m, new, evs, hsync, -⟩ := sync_writes p (setStreams { s.streams with pulse := l } s)
    rw [h, hsync]; rfl

/-- FRAME.OPEN leaves the window, or begins one at slot 0. -/
theorem frameOpen_fr (a : Anchor) (s : State) :
    (frameOpen a s).fr = s.fr ∨ (frameOpen a s).fr.j = 0 := by
  cases hmode : s.fr.mode with
  | idle => rw [frameOpen_of_idle hmode]; exact .inr rfl
  | active => rw [frameOpen_of_active hmode]; exact .inl rfl

theorem takeOpen_fr (s : State) :
    (takeAnchor frameOpen s).fr = s.fr ∨ (takeAnchor frameOpen s).fr.j = 0 := by
  obtain ⟨-, h⟩ | ⟨a, l, -, h⟩ := takeAnchor_cases frameOpen s
  · rw [h]; exact .inl rfl
  · rw [h]; exact frameOpen_fr a _

/-- The state in which a tick gives its sample to FRAME.ACC (20_memory R58). -/
def beforeAcc (e : EnvSample) (s : State) : State :=
  takeAnchor frameOpen (takePulse sync (edge e s))

theorem tickStages_eq (e : EnvSample) (s : State) :
    tickStages e s = endTick e (takeCandidate crc (frameAcc e (beforeAcc e s))) := rfl

theorem beforeAcc_midTick (e : EnvSample) {s : State} (h : PipeInv s) (hrun : s.run = .running) :
    MidTick (beforeAcc e s) ∧ (beforeAcc e s).streams = Streams.empty := by
  obtain ⟨hedge, ps, hps, hnow, hpulse⟩ := edge_midTick e h hrun
  obtain ⟨hsync, as, has, hfresh, hanchor⟩ := takeSync_midTick hedge hps hnow hpulse
  exact takeOpen_midTick hsync has hfresh hanchor

theorem beforeAcc_sameControl (e : EnvSample) (s : State) : SameControl s (beforeAcc e s) :=
  ((edge_sameControl e s).trans (takePulse_sameControl sync_sameControl _)).trans
    (takeAnchor_sameControl (fun a s => (frameOpen_writes a s).sameControl) _)

theorem beforeAcc_samePort (e : EnvSample) (s : State) : SamePort s (beforeAcc e s) :=
  ((edge_samePort e s).trans (takeSync_samePort _)).trans (takeOpen_samePort _)

theorem beforeAcc_fr (e : EnvSample) (s : State) :
    (beforeAcc e s).fr = s.fr ∨ (beforeAcc e s).fr.j = 0 := by
  have hkept : (takePulse sync (edge e s)).fr = s.fr := (takeSync_fr _).trans (edge_fr e s)
  rw [← hkept]
  exact takeOpen_fr _

theorem crc_cand (c : Candidate) (s : State) : (crc c s).cand = s.cand := by
  obtain ⟨new, evs, hcrc, -⟩ := crc_writes c s
  rw [hcrc]; rfl

/-- CRC takes the candidate that FRAME.ACC passed on, and appends only what its class guarantees. -/
theorem takeCrc_guaranteed {s : State} {c : Candidate} (hlegal : paramsLegal s.params = true)
    (hc : s.streams.candidate = [c]) (h : LeftBy s.params s.cand c) :
    AppendsOnly (Guaranteed s.params s.cfg (takeCandidate crc s).cand c.anchor) s
      (takeCandidate crc s) := by
  obtain ⟨hnone, -⟩ | ⟨d, l, hd, htake⟩ := takeCandidate_cases crc s
  · rw [hc] at hnone; cases hnone
  · obtain ⟨rfl, -⟩ := List.cons.inj (hc.symm.trans hd)
    rw [htake, crc_cand]
    exact crc_guaranteed (s := setStreams { s.streams with candidate := l } s) h hlegal

/-- A tick appends only a record of the window that was open before it, with the guarantee of its class. -/
theorem tickStages_guaranteed (e : EnvSample) {s : State} (h : PipeInv s)
    (hrun : s.run = .running) :
    AppendsOnly (fun f => s.fr.mode = .active ∧
      Guaranteed s.params s.cfg (tickStages e s).cand s.fr.anchor f) s (tickStages e s) := by
  obtain ⟨hlegal, -⟩ := id h
  obtain ⟨hmid, hstreams⟩ := beforeAcc_midTick e h hrun
  have hport : SamePort s (frameAcc e (beforeAcc e s)) :=
    (beforeAcc_samePort e s).trans (frameAcc_writes e _).samePort
  have hcontrol : SameControl s (frameAcc e (beforeAcc e s)) :=
    (beforeAcc_sameControl e s).trans (frameAcc_writes e _).sameControl
  rw [tickStages_eq]
  obtain hnone | ⟨hmode, hj, c, hc, hanchor, hleft⟩ := frameAcc_candidate e hstreams hmid.window
  · have hstill : takeCandidate crc (frameAcc e (beforeAcc e s)) = frameAcc e (beforeAcc e s) := by
      rw [takeCandidate, hnone]
    rw [hstill]
    exact (hport.trans ⟨rfl, rfl⟩).appendsOnly _
  · rw [(beforeAcc_fr e s).resolve_right hj] at hmode hanchor
    rw [(beforeAcc_sameControl e s).params, ← hcontrol.params] at hleft
    have hcrc := takeCrc_guaranteed (by rw [hcontrol.params]; exact hlegal) hc hleft
    rw [hcontrol.params, hcontrol.cfg, hanchor] at hcrc
    exact hport.trans_appendsOnly (fun f hf => ⟨hmode, hf⟩) hcrc

/-- Settles O9: FRAME.ACC passes on only the candidate of a window that was open before the tick, and CRC what its class
guarantees. -/
theorem pushEmitsOnlyGuaranteedFrames : Obligations.PushEmitsOnlyGuaranteedFrames := by
  intro smp s t h hexec
  obtain ⟨hrun, rfl⟩ := execPush_next hexec
  obtain ⟨-, -, hstreams, -⟩ := id h
  rw [tick_of_empty smp hstreams]
  exact tickStages_guaranteed (magnitude smp) h hrun

end Sys2Proof.Machine

/-! SUPPORT. The symbol of a slot observation, one law per symbol (44_ppm_decoder R181, R182), and PPM as a step. -/

namespace Sys2Proof.Machine

section Symbol

variable {t : BitVec 4} {o : SlotObs}

theorem symbolOf_of_ambiguous
    (h : o.b1 = true ∨ o.b2 = true ∨
      (¬exceeds t o.e1.toNat o.e2.toNat = true ∧ ¬exceeds t o.e2.toNat o.e1.toNat = true)) :
    symbolOf t o = .ambig := by
  obtain h1 | h2 | ⟨h12, h21⟩ := h
  · simp [symbolOf, h1]
  · simp [symbolOf, h2]
  · simp [symbolOf, h12, h21]

theorem symbolOf_of_first (h1 : o.b1 = false) (h2 : o.b2 = false)
    (h : exceeds t o.e1.toNat o.e2.toNat = true) : symbolOf t o = .one := by
  rw [symbolOf_of_clear t h1 h2, if_pos h]

/-- The test of the first half comes before this one and fails: of two energies at most one exceeds the other. -/
theorem symbolOf_of_second (h1 : o.b1 = false) (h2 : o.b2 = false)
    (h : exceeds t o.e2.toNat o.e1.toNat = true) : symbolOf t o = .zero := by
  rw [symbolOf_of_clear t h1 h2, exceeds_asymm t h, if_neg Bool.false_ne_true, if_pos h]

end Symbol

theorem exec_ppm_of_symbol {o : SlotObs} {s : State} {x : Sym}
    (h : symbolOf s.cfg.threshSel o = x) :
    exec (.ppm o) s = .next
      { s with cand := storeAfter o.j x s.cand, host := hostAfter o.j x s.host } := by
  subst h
  exact congrArg Host.Outcome.next (ppm_eq o s)

/-- Settles O35: the symbol is fixed by its law in each of the three cases, and PPM stores that symbol. -/
theorem ppmStoresSymbol : Obligations.PpmStoresSymbol := by
  intro o s above ambiguous
  have habove (x y : Energy) :
      above x y ↔ exceeds s.cfg.threshSel x.toNat y.toNat = true := by
    rw [exceeds_iff, Nat.mul_comm 256]
  have hclear (h : ¬ambiguous) : o.b1 = false ∧ o.b2 = false :=
    ⟨Bool.eq_false_iff.2 fun h1 => h (.inl h1),
      Bool.eq_false_iff.2 fun h2 => h (.inr (.inl h2))⟩
  refine ⟨fun h => ?_, fun h hfirst => ?_, fun h hsecond => ?_⟩
  · refine exec_ppm_of_symbol (symbolOf_of_ambiguous ?_)
    rwa [← habove, ← habove]
  · obtain ⟨h1, h2⟩ := hclear h
    exact exec_ppm_of_symbol (symbolOf_of_first h1 h2 ((habove _ _).1 hfirst))
  · obtain ⟨h1, h2⟩ := hclear h
    exact exec_ppm_of_symbol (symbolOf_of_second h1 h2 ((habove _ _).1 hsecond))

end Sys2Proof.Machine

/-! SUPPORT. The syndrome as a division (45_parity_checker R190, R191): the register bit by bit, a single 1 as a power of
`x`, and the 24 bits of the parity field, which pass into the register as they stand. -/

namespace Sys2Proof.Machine

/-! ## The register -/

theorem syndrome_concat (poly : Syndrome) (v : List Bool) (b : Bool) :
    syndrome poly (v ++ [b]) = crcStep poly (syndrome poly v) b := List.foldl_concat ..

theorem crcStep_false (poly r : Syndrome) :
    crcStep poly r false = if r.getLsbD 23 = true then (r <<< 1) ^^^ poly else r <<< 1 := by
  simp [crcStep]

/-- Leading zeros leave the register at 0. -/
theorem syndrome_zeros_append (poly : Syndrome) (n : Nat) (v : List Bool) :
    syndrome poly (List.replicate n false ++ v) = syndrome poly v := by
  induction n with
  | zero => rfl
  | succ n ih => exact ih

/-! ## Powers of `x` -/

/-- A power of `x` is taken to the next one as R190 takes in a zero bit. -/
theorem syndrome_power_succ (poly : Syndrome) (k : Nat) :
    syndrome poly (true :: List.replicate (k + 1) false) =
      crcStep poly (syndrome poly (true :: List.replicate k false)) false := by
  rw [List.replicate_succ', ← List.cons_append, syndrome_concat]

/-- Below degree 24 nothing falls out, so the power is its own remainder. -/
theorem syndrome_power_of_lt (poly : Syndrome) {k : Nat} (h : k < 24) :
    syndrome poly (true :: List.replicate k false) = 1#24 <<< k := by
  induction k with
  | zero => simp [syndrome, crcStep]
  | succ k ih =>
    have hbelow : 23 - k ≠ 0 := by omega
    have hkept : (1#24 <<< k).getLsbD 23 = false := by simp [hbelow]
    rw [syndrome_power_succ, ih (by omega), crcStep_false, hkept, if_neg Bool.false_ne_true,
      BitVec.shiftLeft_add]

/-- The first power that does not fit leaves the generator's lower coefficients. -/
theorem syndrome_power_24 (poly : Syndrome) :
    syndrome poly (true :: List.replicate 24 false) = poly := by
  rw [syndrome_power_succ, syndrome_power_of_lt poly (by omega), crcStep_false]
  simp

/-! ## A single flip -/

theorem unitBits_eq {n p : Nat} (h : p < n) :
    unitBits n p = List.replicate p false ++ true :: List.replicate (n - 1 - p) false := by
  rw [unitBits, List.set_eq_take_append_cons_drop, if_pos (by simpa using h),
    List.take_replicate, List.drop_replicate, Nat.min_eq_left h.le,
    Nat.add_comm p 1, Nat.sub_add_eq]

/-- `S(n, p)` is the power of `x` of the distance from the end of the frame. -/
theorem flipSyndrome_eq_power (poly : Syndrome) {n p : Nat} (h : p < n) :
    flipSyndrome poly n p = syndrome poly (true :: List.replicate (n - 1 - p) false) := by
  rw [flipSyndrome, unitBits_eq h, syndrome_zeros_append]

/-- One position earlier is one power more. -/
theorem flipSyndrome_step (poly : Syndrome) {n p : Nat} (h : p + 1 < n) :
    flipSyndrome poly n p = crcStep poly (flipSyndrome poly n (p + 1)) false := by
  have hpower : n - 1 - p = (n - 1 - (p + 1)) + 1 := by omega
  rw [flipSyndrome_eq_power poly (by omega), flipSyndrome_eq_power poly h, hpower,
    syndrome_power_succ]

/-- Settles O37: a single flip is a power of `x`, and the rest is the register's step and its linearity. -/
theorem syndromeIsLinear : Obligations.SyndromeIsLinear := by
  intro poly
  refine ⟨⟨rfl, fun v b => ?register⟩, syndrome_power_24 poly, fun _ _ => syndrome_xor poly,
    fun v f _ _ => syndrome_flipBits poly v f, fun p hp => ?fromEnd, fun n p hp hfield => ?field,
    fun n p hp => (flipSyndrome_step poly hp).trans (crcStep_false ..),
    fun n p => flipSyndrome_eq_power poly⟩
  case register =>
    rw [syndrome_concat]
    cases b <;> rfl
  case fromEnd =>
    have hdistance : 112 - 1 - (p + 56) = 56 - 1 - p := by omega
    rw [flipSyndrome_eq_power poly hp, flipSyndrome_eq_power poly (by omega), hdistance]
  case field =>
    rw [flipSyndrome_eq_power poly hp, syndrome_power_of_lt poly (by omega)]

/-! ## The parity field -/

theorem msbNat_lt (v : List Bool) : msbNat v < 2 ^ v.length := by
  induction v using List.reverseRecOn with
  | nil => simp [msbNat]
  | append_singleton v b ih =>
    have hb := b.toNat_le
    rw [msbNat_concat, List.length_append, List.length_singleton, Nat.pow_succ]
    omega

/-- A bit shifted into a register is the number's next binary digit. -/
theorem shiftIn_ofNat (m : Nat) (b : Bool) :
    (BitVec.ofNat 24 m <<< 1) ||| (BitVec.ofBool b).setWidth 24 =
      BitVec.ofNat 24 (2 * m + b.toNat) := by
  have hlow : (2 * m + b.toNat).testBit 0 = b := by cases b <;> simp
  have hhigh : (2 * m + b.toNat) / 2 = m := by have := b.toNat_lt; omega
  refine BitVec.eq_of_getLsbD_eq fun i hi => ?_
  simp only [BitVec.getLsbD_or, BitVec.getLsbD_shiftLeft, BitVec.getLsbD_ofNat]
  cases i with
  | zero => simp [hlow]
  | succ i => simp [Nat.testBit_succ, hhigh, hi, Nat.lt_of_succ_lt hi]

/-- Up to 24 bits pass into the register as they stand. -/
theorem syndrome_of_length_le (poly : Syndrome) {v : List Bool} (h : v.length ≤ 24) :
    syndrome poly v = BitVec.ofNat 24 (msbNat v) := by
  induction v using List.reverseRecOn with
  | nil => rfl
  | append_singleton v b ih =>
    rw [List.length_append, List.length_singleton] at h
    have hlt : msbNat v < 2 ^ 23 :=
      (msbNat_lt v).trans_le (Nat.pow_le_pow_right (by omega) (by omega))
    have hkept : (BitVec.ofNat 24 (msbNat v)).getLsbD 23 = false := by
      rw [BitVec.getLsbD_ofNat, Nat.testBit_lt_two_pow hlt, Bool.and_false]
    rw [syndrome_concat, ih (by omega), crcStep_eq, hkept, shiftIn_ofNat, msbNat_concat]
    simp

theorem zipWith_xor_zeros (v : List Bool) :
    List.zipWith xor (List.replicate v.length false) v = v :=
  List.ext_getElem (by simp) fun i _ _ => by simp

/-- A frame is the sum of its payload before zeros and its parity field behind zeros. -/
theorem syndrome_append (poly : Syndrome) (payload field : List Bool) :
    syndrome poly (payload ++ field) =
      syndrome poly (payload ++ List.replicate field.length false) ^^^ syndrome poly field := by
  have h := crcFold_xor poly (v := List.replicate field.length false) (w := field) (by simp)
    (syndrome poly payload) 0#24
  rw [zipWith_xor_zeros, BitVec.xor_zero] at h
  rw [syndrome, syndrome, List.foldl_append, List.foldl_append]
  exact h

/-- Settles O38: the register is linear, and the 24 bits of the parity field pass into it as they stand. -/
theorem syndromeIsParityDifference : Obligations.SyndromeIsParityDifference := by
  intro poly v h
  have hfield : (v.drop (v.length - 24)).length = 24 := by rw [List.length_drop]; omega
  calc syndrome poly v
      = syndrome poly (v.take (v.length - 24) ++ v.drop (v.length - 24)) := by
        rw [List.take_append_drop]
    _ = parity poly (v.take (v.length - 24)) ^^^ syndrome poly (v.drop (v.length - 24)) := by
        rw [syndrome_append, hfield]; rfl
    _ = parity poly (v.take (v.length - 24)) ^^^
          BitVec.ofNat 24 (msbNat (v.drop (v.length - 24))) := by
        rw [syndrome_of_length_le poly hfield.le]

end Sys2Proof.Machine

/-! SUPPORT. CRC, one law per exit (45_parity_checker R192, R197), and the two ways in which EMIT is used there
(46_error_corrector R207). -/

namespace Sys2Proof.Machine

theorem provisional_eq (sym : List Sym) :
    provisional sym = sym.map fun x => decide (x = Sym.one) :=
  List.map_congr_left fun x _ => by cases x <;> rfl

theorem emit_clean (a : Anchor) (len : FrameLen) (w : List Bool) (dist : BitVec 2) (s : State) :
    emit a len w .clean dist s = appendOut (frameOf a len w .clean dist) s :=
  if_neg fun h => nomatch h.1

/-- An invalid frame shows only under `pass_all`. -/
theorem emit_invalid (a : Anchor) (len : FrameLen) (w : List Bool) (dist : BitVec 2) (s : State) :
    emit a len w .invalid dist s =
      { s with outq := if s.cfg.passAll = true then s.outq ++ [frameOf a len w .invalid dist]
                       else s.outq } := by
  unfold emit
  cases hpass : s.cfg.passAll
  · rfl
  · simp [appendOut]

section Exits

variable {c : Candidate} {s : State}

theorem exec_crc_of_gate (h : s.params.maxDist < c.nAmb.toNat) :
    exec (.crc c) s = .next (emit c.anchor c.len (provisional c.sym) .invalid 0
      (raise (.uncorrectableFrame c.anchor.position) s)) :=
  congrArg Host.Outcome.next (if_pos h)

theorem exec_crc_of_match (h : c.nAmb.toNat ≤ s.params.maxDist)
    (hsyn : syndrome s.params.crcPoly (provisional c.sym) = 0) :
    exec (.crc c) s = .next (emit c.anchor c.len (provisional c.sym) .clean 0 s) :=
  congrArg Host.Outcome.next ((if_neg h.not_gt).trans (if_pos hsyn))

theorem exec_crc_of_mismatch (h : c.nAmb.toNat ≤ s.params.maxDist)
    (hsyn : syndrome s.params.crcPoly (provisional c.sym) ≠ 0) :
    exec (.crc c) s =
      exec (.fix c (provisional c.sym) (syndrome s.params.crcPoly (provisional c.sym)))
        (raise (.parityMismatch c.anchor.position
          (syndrome s.params.crcPoly (provisional c.sym))) s) :=
  congrArg Host.Outcome.next ((if_neg h.not_gt).trans (if_neg hsyn))

end Exits

/-- Settles O39: one law per exit of CRC. -/
theorem crcClassifies : Obligations.CrcClassifies := by
  intro c s v syn
  have hv : v = provisional c.sym := (provisional_eq c.sym).symm
  refine ⟨fun hgate => ?_, fun hle hmatch => ?_, fun hle hmismatch => ?_⟩
  · rw [exec_crc_of_gate hgate, emit_invalid, hv]
    rfl
  · rw [exec_crc_of_match hle (hv ▸ hmatch), emit_clean, hv]
    rfl
  · rw [exec_crc_of_mismatch hle (hv ▸ hmismatch), ← hv]
    rfl

end Sys2Proof.Machine

/-! SUPPORT. The order of the search (46_error_corrector R201, R203): the priority list as its two groups, and the flip-sets of
each size, their order and their number. -/

namespace Sys2Proof.Machine

/-! ## The priority list -/

/-- The ambiguous positions, ascending: the first group of the priority list. -/
def ambiguousPositions (sym : List Sym) : List Nat :=
  (List.range sym.length).filter fun i => sym[i]? = some .ambig

/-- The clear positions, ascending: the second group. -/
def clearPositions (sym : List Sym) : List Nat :=
  (List.range sym.length).filter fun i => sym[i]? ≠ some .ambig

theorem priorityList_eq_groups (sym : List Sym) :
    priorityList sym = ambiguousPositions sym ++ clearPositions sym := rfl

theorem map_getElem?_range (sym : List Sym) :
    (List.range sym.length).map (fun i => sym[i]?) = sym.map some :=
  List.ext_getElem (by simp) fun i _ _ => by simp

theorem ambiguousPositions_length (sym : List Sym) :
    (ambiguousPositions sym).length = sym.count .ambig := by
  calc (ambiguousPositions sym).length
      = ((List.range sym.length).map (fun i => sym[i]?)).count (some .ambig) := by
        rw [ambiguousPositions, ← List.countP_eq_length_filter, List.count, List.countP_map]
        exact List.countP_congr fun i _ => by simp
    _ = sym.count .ambig := by
        rw [map_getElem?_range, List.count_map_of_injective _ _ (Option.some_injective _)]

theorem priorityList_take (sym : List Sym) :
    (priorityList sym).take (sym.count .ambig) = ambiguousPositions sym := by
  rw [priorityList_eq_groups, List.take_left' (ambiguousPositions_length sym)]

theorem priorityList_drop (sym : List Sym) :
    (priorityList sym).drop (sym.count .ambig) = clearPositions sym := by
  rw [priorityList_eq_groups, List.drop_left' (ambiguousPositions_length sym)]

/-- Settles O42: the list is its two groups one after the other, and each keeps the order of the positions. -/
theorem priorityListRanksAmbiguousFirst : Obligations.PriorityListRanksAmbiguousFirst := by
  intro sym p na
  have hfirst : p.take na = ambiguousPositions sym := priorityList_take sym
  have hlast : p.drop na = clearPositions sym := priorityList_drop sym
  rw [hfirst, hlast]
  refine ⟨priorityList_perm sym, fun x hx => ?_, ambiguousPositions_length sym, fun x hx => ?_,
    List.pairwise_lt_range.filter _, List.pairwise_lt_range.filter _⟩
  · exact of_decide_eq_true (List.mem_filter.1 hx).2
  · exact of_decide_eq_true (List.mem_filter.1 hx).2

/-! ## The flip-sets of one size -/

@[simp] theorem flipSets_zero (l : List Nat) : flipSets 0 l = [[]] := by cases l <;> rfl

@[simp] theorem flipSets_succ_nil (d : Nat) : flipSets (d + 1) [] = [] := rfl

theorem flipSets_succ_cons (d p : Nat) (l : List Nat) :
    flipSets (d + 1) (p :: l) = (flipSets d l).map (p :: ·) ++ flipSets (d + 1) l := rfl

theorem mem_flipSets_iff {d : Nat} {l f : List Nat} :
    f ∈ flipSets d l ↔ f.Sublist l ∧ f.length = d := by
  constructor
  · exact flipSets_sublist d l f
  · rintro ⟨hsub, rfl⟩
    exact mem_flipSets_of_sublist hsub

/-- The increasing tuples below `n` are the sublists of the first `n` numbers. -/
theorem sublist_range_iff {n : Nat} {f : List Nat} :
    f.Sublist (List.range n) ↔ f.Pairwise (· < ·) ∧ ∀ x ∈ f, x < n := by
  constructor
  · intro h
    exact ⟨List.pairwise_lt_range.sublist h, fun x hx => List.mem_range.1 (h.subset hx)⟩
  · rintro ⟨hinc, hlt⟩
    have hsub : f.Subset (List.range n) := fun x hx => List.mem_range.2 (hlt x hx)
    exact List.sublist_of_subperm_of_pairwise (List.subperm_of_subset hinc.nodup hsub) hinc
      List.pairwise_lt_range

/-- The sets with the first rank come before those without it, whose first rank is a later one. -/
theorem flipSets_pairwise_lt {l : List Nat} (h : l.Pairwise (· < ·)) (d : Nat) :
    (flipSets d l).Pairwise (· < ·) := by
  induction l generalizing d with
  | nil => cases d <;> simp
  | cons p l ih =>
    obtain ⟨hfirst, htail⟩ := List.pairwise_cons.1 h
    cases d with
    | zero => simp
    | succ d =>
      rw [flipSets_succ_cons, List.pairwise_append, List.pairwise_map]
      refine ⟨(ih htail d).imp fun hfg => List.cons_lt_cons_iff.2 (.inr ⟨rfl, hfg⟩),
        ih htail (d + 1), fun f hf g hg => ?_⟩
      obtain ⟨f, -, rfl⟩ := List.mem_map.1 hf
      obtain ⟨hsub, hlen⟩ := mem_flipSets_iff.1 hg
      obtain ⟨q, g, rfl⟩ := List.exists_cons_of_length_eq_add_one hlen
      exact List.cons_lt_cons_iff.2 (.inl (hfirst q (hsub.subset List.mem_cons_self)))

/-- Which sets are listed depends on the ranks alone. -/
theorem flipSets_map (g : Nat → Nat) (d : Nat) (l : List Nat) :
    flipSets d (l.map g) = (flipSets d l).map (List.map g) := by
  induction l generalizing d with
  | nil => cases d <;> simp
  | cons p l ih =>
    cases d with
    | zero => simp
    | succ d => simp [flipSets_succ_cons, ih, Function.comp_def]

theorem map_getD_range (p : List Nat) :
    (List.range p.length).map (fun k => p.getD k 0) = p :=
  List.ext_getElem (by simp) fun i _ hi => by simp [hi]

theorem flipSets_eq_map_ranks (d : Nat) (p : List Nat) :
    flipSets d p =
      (flipSets d (List.range p.length)).map (fun r => r.map (fun k => p.getD k 0)) := by
  rw [← flipSets_map, map_getD_range]

theorem flipSets_length (d : Nat) (l : List Nat) :
    (flipSets d l).length = l.length.choose d := by
  induction l generalizing d with
  | nil => cases d <;> simp
  | cons p l ih =>
    cases d with
    | zero => simp
    | succ d =>
      rw [flipSets_succ_cons, List.length_append, List.length_map, ih, ih, List.length_cons,
        Nat.choose_succ_succ]

/-! ## The search order -/

theorem searchOrder_succ (m : Nat) (p : List Nat) :
    searchOrder (m + 1) p = searchOrder m p ++ flipSets (m + 1) p := by
  simp [searchOrder, List.range_succ]

theorem searchOrder_count (m : Nat) (p : List Nat) : (searchOrder m p).length =
    ((List.range m).map (fun k => p.length.choose (k + 1))).sum := by
  simp [searchOrder, List.length_flatMap, flipSets_length]

/-- Smaller sets are tried first. -/
theorem searchOrder_pairwise_length (m : Nat) (p : List Nat) :
    (searchOrder m p).Pairwise (fun f g => f.length ≤ g.length) := by
  induction m with
  | zero => exact .nil
  | succ m ih =>
    rw [searchOrder_succ, List.pairwise_append]
    refine ⟨ih, List.pairwise_of_forall_mem_list fun f hf g hg => ?_, fun f hf g hg => ?_⟩
    · exact ((mem_flipSets_iff.1 hf).2.trans (mem_flipSets_iff.1 hg).2.symm).le
    · have hsmall := (searchOrder_length m p f hf).2
      have hlarge := (mem_flipSets_iff.1 hg).2
      omega

/-- Settles O41: the sets of one size by recursion on the ranks, then size after size. -/
theorem flipSetsAreInOrder : Obligations.FlipSetsAreInOrder := by
  refine ⟨fun d n f => ?mem, fun d n => flipSets_pairwise_lt List.pairwise_lt_range d,
    flipSets_eq_map_ranks, fun _ => rfl, searchOrder_succ, searchOrder_count,
    searchOrder_pairwise_length⟩
  case mem => rw [mem_flipSets_iff, sublist_range_iff, and_comm]

end Sys2Proof.Machine

/-! SUPPORT. EMIT and FIX as steps (46_error_corrector R202, R204, R207): the first set that the search accepts is one of the
smallest that reconcile the bits. -/

namespace Sys2Proof.Machine

/-! ## EMIT -/

/-- The zeros below a frame in its record. -/
theorem frameBits_getLsbD_of_lt {w : List Bool} {k : Nat} (h : k < 112 - w.length) :
    (frameBits w).getLsbD k = false := by
  rw [frameBits, BitVec.getLsbD_ofNat, Nat.testBit_mul_two_pow, decide_eq_false h.not_ge,
    Bool.false_and, Bool.and_false]

section Emit

variable {a : Anchor} {len : FrameLen} {w : List Bool} {st : ParityStatus} {dist : BitVec 2}
  {s : State}

theorem exec_emit_of_dropped (h : st = .invalid ∧ s.cfg.passAll = false) :
    exec (.emit a len w st dist) s = .next s := congrArg Host.Outcome.next (if_pos h)

theorem exec_emit_of_shown (h : ¬(st = .invalid ∧ s.cfg.passAll = false)) :
    exec (.emit a len w st dist) s =
      .next { s with outq := s.outq ++ [frameOf a len w st dist] } :=
  congrArg Host.Outcome.next (if_neg h)

end Emit

/-- Settles O43: the two exits of EMIT; the record's bits are `frameBits`, whose every bit is known. -/
theorem emitPlacesBits : Obligations.EmitPlacesBits := by
  intro a len w st dist s hw
  refine ⟨exec_emit_of_dropped, fun hshown => ⟨frameBits w, exec_emit_of_shown hshown,
    fun k h => frameBits_getLsbD hw h, fun k h => frameBits_getLsbD_of_lt ?_⟩⟩
  rwa [hw]

/-! ## FIX -/

section Fix

variable {p : Params} {c : Candidate} {v : List Bool} {syn : Syndrome} {f g : List Nat}

/-- Whether a set reconciles the bits does not depend on the order in which it is written. -/
theorem Reconciles.perm {len : FrameLen} (h : Reconciles p len v syn f) (hfg : f.Perm g) :
    Reconciles p len v syn g := by
  obtain ⟨hnodup, hlt, hpos, hle, hresidue, hlen⟩ := h
  refine ⟨hfg.nodup_iff.1 hnodup, fun x hx => hlt x (hfg.mem_iff.2 hx), hfg.length_eq ▸ hpos,
    hfg.length_eq ▸ hle, (residue_perm hfg ..).symm.trans hresidue, ?_⟩
  rwa [← flipBits_perm hnodup hfg]

theorem Reconciles.accepted {len : FrameLen} (h : Reconciles p len v syn f) :
    accepted p len v syn f = true := by
  obtain ⟨-, -, -, -, hresidue, hlen⟩ := h
  exact accepted_iff.2 ⟨hresidue, hlen⟩

/-- The search tries every set that reconciles the bits, up to the order in which it is written. -/
theorem Reconciles.exists_perm_tried (hsym : c.sym.length = c.len.slots)
    (h : Reconciles p c.len v syn f) :
    ∃ g ∈ searchOrder p.maxDist (priorityList c.sym), f.Perm g := by
  obtain ⟨hnodup, hlt, hpos, hle, -⟩ := h
  have hperm := inRankOrder_perm (sym := c.sym) hnodup fun i hi => hsym ▸ hlt i hi
  rw [hperm.length_eq] at hpos hle
  exact ⟨_, mem_searchOrder_iff.2 ⟨List.filter_sublist, hpos, hle⟩, hperm⟩

/-- Nothing that the search tries before it finds a set reconciles the bits. -/
theorem findFlips_first (h : findFlips p c v syn = some f) :
    ∃ tried rest, searchOrder p.maxDist (priorityList c.sym) = tried ++ f :: rest ∧
      ∀ g ∈ tried, ¬Reconciles p c.len v syn g := by
  obtain ⟨-, tried, rest, hsplit, hrefused⟩ := List.find?_eq_some_iff_append.1 h
  refine ⟨tried, rest, hsplit, fun g hg hrec => ?_⟩
  simpa [hrec.accepted] using hrefused g hg

/-- A set that reconciles the bits is tried when `f` is found or later, so it is no smaller than `f`. -/
theorem findFlips_smallest (hsym : c.sym.length = c.len.slots) (h : findFlips p c v syn = some f)
    (hg : Reconciles p c.len v syn g) : f.length ≤ g.length := by
  obtain ⟨tried, rest, hsplit, hrefused⟩ := findFlips_first h
  obtain ⟨g', hmem, hperm⟩ := hg.exists_perm_tried hsym
  have hsizes := searchOrder_pairwise_length p.maxDist (priorityList c.sym)
  rw [hsplit] at hmem hsizes
  obtain ⟨-, hafter, -⟩ := List.pairwise_append.1 hsizes
  rw [hperm.length_eq]
  obtain htried | hfound | hrest := by simpa only [List.mem_append, List.mem_cons] using hmem
  · exact absurd (hg.perm hperm) (hrefused g' htried)
  · rw [hfound]
  · exact (List.pairwise_cons.1 hafter).1 g' hrest

/-- A reconciling set cancels the syndrome of the bits themselves. -/
theorem Reconciles.syndrome_flipBits_eq_zero {len : FrameLen} (hv : v.length = len.slots)
    (h : Reconciles p len v (syndrome p.crcPoly v) f) : syndrome p.crcPoly (flipBits v f) = 0 := by
  obtain ⟨-, -, -, -, hresidue, -⟩ := h
  rw [syndrome_flipBits, hv]
  exact hresidue

end Fix

section Exits

variable {c : Candidate} {v : List Bool} {syn : Syndrome} {s : State}

theorem exec_fix_of_found {f : List Nat} (h : findFlips s.params c v syn = some f) :
    exec (.fix c v syn) s = .next
      { s with outq := s.outq ++
        [frameOf c.anchor c.len (flipBits v f) .corrected (BitVec.ofNat 2 f.length)] } := by
  have hfix : exec (.fix c v syn) s =
      exec (.emit c.anchor c.len (flipBits v f) .corrected (BitVec.ofNat 2 f.length)) s :=
    congrArg Host.Outcome.next (by rw [fix, h])
  exact hfix.trans (exec_emit_of_shown fun hdrop => nomatch hdrop.1)

theorem exec_fix_of_none (h : findFlips s.params c v syn = none) :
    exec (.fix c v syn) s = .next
      { s with
        outq := if s.cfg.passAll = true then s.outq ++ [frameOf c.anchor c.len v .invalid 0]
          else s.outq,
        host := { s.host with
          log := s.host.log ++ [.uncorrectableFrame c.anchor.position] } } := by
  have hfix : fix c v syn s =
      emit c.anchor c.len v .invalid 0 (raise (.uncorrectableFrame c.anchor.position) s) := by
    rw [fix, h]
  exact congrArg Host.Outcome.next (hfix.trans (emit_invalid ..))

end Exits

/-- Settles O40: the two answers of the search, what it finds being the first set in an order by size. -/
theorem fixAppliesSmallestFlipSet : Obligations.FixAppliesSmallestFlipSet := by
  intro c v syn s hsym hv
  cases hfind : findFlips s.params c v syn with
  | some f =>
    have hrec := reconciles_of_findFlips_some hsym hfind
    refine .inl ⟨f, hrec, fun g => findFlips_smallest hsym hfind, findFlips_first hfind,
      fun hsyn => ?_, exec_fix_of_found hfind⟩
    rw [hsyn] at hrec
    exact hrec.syndrome_flipBits_eq_zero hv
  | none => exact .inr ⟨not_reconciles_of_findFlips_none hsym hfind, exec_fix_of_none hfind⟩

end Sys2Proof.Machine

/-! SUPPORT. What the stages of a tick leave of the detector's history and of the host's side (20_memory R58), and that no
operation writes the bench of notes/assumptions/4.md. -/

namespace Sys2Proof.Machine

/-- `t` has the history of `s`, and its host's side but for events logged since. -/
structure KeepsHistory (s t : State) : Prop where
  hist : t.pd.hist = s.pd.hist
  host : ∃ evs, t.host = { s.host with log := s.host.log ++ evs }

theorem keepsHistory_of_same {s t : State} (hist : t.pd.hist = s.pd.hist) (host : t.host = s.host) :
    KeepsHistory s t := ⟨hist, [], by rw [host, List.append_nil]⟩

theorem KeepsHistory.trans {s t u : State} (h : KeepsHistory s t) (k : KeepsHistory t u) :
    KeepsHistory s u := by
  obtain ⟨evs, hevs⟩ := h.host
  obtain ⟨evs', hevs'⟩ := k.host
  exact ⟨k.hist.trans h.hist, evs ++ evs', by rw [hevs', hevs, ← List.append_assoc]⟩

theorem KeepsHistory.bench {s t : State} (h : KeepsHistory s t) : t.host.bench = s.host.bench := by
  obtain ⟨evs, hevs⟩ := h.host
  rw [hevs]

/-! ## The stages -/

theorem setStreams_keepsHistory (x : Streams) (s : State) : KeepsHistory s (setStreams x s) :=
  keepsHistory_of_same rfl rfl

theorem edge_keepsHistory (e : EnvSample) (s : State) : KeepsHistory s (edge e s) := by
  obtain ⟨pd, new, evs, h, hhist, -⟩ := edge_writes e s
  rw [h]; exact ⟨hhist, evs, rfl⟩

theorem sync_keepsHistory (p : Pulse) (s : State) : KeepsHistory s (sync p s) := by
  obtain ⟨ps, new, evs, h, -⟩ := sync_writes p s
  rw [h]; exact ⟨rfl, evs, rfl⟩

theorem WritesWindow.keepsHistory {s t : State} (h : WritesWindow s t) : KeepsHistory s t := by
  obtain ⟨fr, cand, str, evs, rfl⟩ := h
  exact ⟨rfl, evs, rfl⟩

theorem emit_keepsHistory (a : Anchor) (len : FrameLen) (w : List Bool) (st : ParityStatus)
    (dist : BitVec 2) (s : State) : KeepsHistory s (emit a len w st dist s) := by
  obtain ⟨-, -, h⟩ | ⟨-, h⟩ := emit_writes a len w st dist s
  · rw [h]; exact keepsHistory_of_same rfl rfl
  · rw [h]; exact ⟨rfl, [], rfl⟩

theorem fix_keepsHistory (c : Candidate) (v : List Bool) (syn : Syndrome) (s : State) :
    KeepsHistory s (fix c v syn s) := by
  obtain ⟨new, evs, h, -⟩ := fix_writes c v syn s
  rw [h]; exact ⟨rfl, evs, rfl⟩

theorem crc_keepsHistory (c : Candidate) (s : State) : KeepsHistory s (crc c s) := by
  obtain ⟨new, evs, h, -⟩ := crc_writes c s
  rw [h]; exact ⟨rfl, evs, rfl⟩

theorem takeSync_keepsHistory (s : State) : KeepsHistory s (takePulse sync s) := by
  obtain ⟨-, h⟩ | ⟨p, l, -, h⟩ := takePulse_cases sync s
  · rw [h]; exact keepsHistory_of_same rfl rfl
  · rw [h]; exact (setStreams_keepsHistory _ s).trans (sync_keepsHistory p _)

theorem takeOpen_keepsHistory (s : State) : KeepsHistory s (takeAnchor frameOpen s) := by
  obtain ⟨-, h⟩ | ⟨a, l, -, h⟩ := takeAnchor_cases frameOpen s
  · rw [h]; exact keepsHistory_of_same rfl rfl
  · rw [h]; exact (setStreams_keepsHistory _ s).trans (frameOpen_writes a _).keepsHistory

theorem takeCrc_keepsHistory (s : State) : KeepsHistory s (takeCandidate crc s) := by
  obtain ⟨-, h⟩ | ⟨c, l, -, h⟩ := takeCandidate_cases crc s
  · rw [h]; exact keepsHistory_of_same rfl rfl
  · rw [h]; exact (setStreams_keepsHistory _ s).trans (crc_keepsHistory c _)

/-- The history moves only at the end of a tick. -/
theorem tickStages_keepsHistory (e : EnvSample) (s : State) :
    ∃ u, KeepsHistory s u ∧ tickStages e s = endTick e u := by
  refine ⟨_, ?_, rfl⟩
  have h2 := edge_keepsHistory e s
  have h3 := h2.trans (takeSync_keepsHistory _)
  have h4 := h3.trans (takeOpen_keepsHistory _)
  have h5 := h4.trans (frameAcc_writes e _).keepsHistory
  exact h5.trans (takeCrc_keepsHistory _)

/-- A tick runs its stages on the oldest envelope sample, which is there once MAG has run. -/
theorem tick_eq_tickStages (smp : Sample) (s : State) :
    ∃ e l, tick smp s = tickStages e (setStreams { s.streams with envelope := l } s) := by
  unfold tick takeEnvelope
  split
  · rename_i h
    simp [mag] at h
  · exact ⟨_, _, rfl⟩

theorem tick_bench (smp : Sample) (s : State) : (tick smp s).host.bench = s.host.bench := by
  obtain ⟨e, l, htick⟩ := tick_eq_tickStages smp s
  obtain ⟨u, hu, hstages⟩ := tickStages_keepsHistory e (setStreams { s.streams with envelope := l } s)
  rw [htick, hstages]
  exact hu.bench

/-! ## The bench -/

theorem truncateStream_bench (s : State) : (truncateStream s).host.bench = s.host.bench := by
  rw [truncateStream_host]

/-- No operation writes the bench. -/
theorem exec_bench {i : Instr} {s t : State} (h : exec i s = .next t) :
    t.host.bench = s.host.bench := by
  cases i with
  | mag smp => cases h; rfl
  | edge e => cases h; exact (edge_keepsHistory e s).bench
  | sync p => cases h; exact (sync_keepsHistory p s).bench
  | frameOpen a => cases h; exact (frameOpen_writes a s).keepsHistory.bench
  | frameAcc e => cases h; exact (frameAcc_writes e s).keepsHistory.bench
  | frameLen => cases h; rfl
  | ppm o => cases h; exact (ppm_writes o s).keepsHistory.bench
  | crc c => cases h; exact (crc_keepsHistory c s).bench
  | fix c v syn => cases h; exact (fix_keepsHistory c v syn s).bench
  | emit a len w st dist => cases h; exact (emit_keepsHistory a len w st dist s).bench
  | fmtShort low => cases h; rfl
  | fmtLong low => cases h; rfl
  | wrcfg off v =>
    cases execWrcfg_next h
    obtain hw | ⟨-, -, hw⟩ | ⟨-, -, hw⟩ := writeConfig_cases off v s <;> rw [hw]
  | rdreg off => obtain ⟨v, rfl⟩ := execRdreg_next h; rfl
  | start ign =>
    cases h
    obtain ⟨-, hs⟩ | ⟨-, -, hs⟩ | ⟨-, -, hs⟩ := startStream_cases s <;> rw [hs] <;> rfl
  | stop ign =>
    cases h
    obtain ⟨-, hs⟩ | ⟨-, hs⟩ := stopStream_cases s
    · rw [hs]
    · rw [hs]; exact truncateStream_bench s
  | clear ign => cases h; exact truncateStream_bench s
  | reset => cases h; exact truncateStream_bench s
  | nop ign => cases h; rfl
  | push smp => obtain ⟨-, rfl⟩ := execPush_next h; exact tick_bench smp s
  | pop => obtain ⟨f, l, -, rfl⟩ := execPop_next h; rfl

/-- Whatever a step performs, it leaves nothing on the bench. -/
theorem step_bench {s t : State} (h : step s = .next t) : t.host.bench = [] := by
  obtain ⟨-, ⟨hbench, -, rfl⟩ | ⟨hbench, i, rest, -, -, hexec⟩ | ⟨i, rest, -, hexec⟩⟩ := step_cases h
  · exact hbench
  · exact (exec_bench hexec).trans hbench
  · exact exec_bench hexec

end Sys2Proof.Machine

/-! SUPPORT. `CoreInv` through every well-formed operation: only the Framer's CLOSE passes on a candidate (43_framer R168),
and only EMIT puts a record at the frame port (46_error_corrector R207). -/

namespace Sys2Proof

/-- The distance of an EMIT goes with its class (30_encoding R79). -/
theorem Instr.WellFormed.emit_dist {a : Anchor} {len : FrameLen} {w : List Bool}
    {st : ParityStatus} {dist : BitVec 2} (h : (Instr.emit a len w st dist).WellFormed) :
    st = .corrected ↔ dist ≠ 0 := by
  by_contra hne
  have hw : ¬w.length ≠ len.slots := not_not.2 h.emit_length
  rw [Instr.WellFormed, Instr.illFormed, if_neg hw, if_neg hne] at h
  cases h

end Sys2Proof

namespace Sys2Proof.Machine

theorem CoreInv.of_same {s t : State} (h : CoreInv s) (control : SameControl s t)
    (port : SamePort s t) (hcand : ∀ c ∈ t.streams.candidate, c.sym.length = c.len.slots) :
    CoreInv t := by
  obtain ⟨hlegal, hfault, -, houtq, htaken⟩ := h
  refine ⟨?_, ?_, hcand, ?_, ?_⟩
  · rwa [control.params]
  · rwa [control.run, control.err]
  · rwa [port.outq]
  · rwa [port.taken]

theorem CoreInv.maxDist_le {s : State} (h : CoreInv s) : s.params.maxDist ≤ 3 :=
  Machine.maxDist_le h.1

/-! ## The stages up to the Framer -/

section Stages

variable {s : State}

theorem edge_coreInv (e : EnvSample) (h : CoreInv s) : CoreInv (edge e s) := by
  obtain ⟨pd, new, evs, hedge, -⟩ := edge_writes e s
  rw [hedge]; exact h

theorem sync_coreInv (p : Pulse) (h : CoreInv s) : CoreInv (sync p s) := by
  obtain ⟨ps, new, evs, hsync, -⟩ := sync_writes p s
  rw [hsync]; exact h

theorem takeSync_coreInv (h : CoreInv s) : CoreInv (takePulse sync s) := by
  obtain ⟨-, htake⟩ | ⟨p, l, -, htake⟩ := takePulse_cases sync s
  · rw [htake]; exact h
  · rw [htake]; exact sync_coreInv p (s := setStreams { s.streams with pulse := l } s) h

theorem frameOpen_coreInv (a : Anchor) (h : CoreInv s) : CoreInv (frameOpen a s) := by
  cases hmode : s.fr.mode with
  | idle => rw [frameOpen_of_idle hmode]; exact h
  | active => rw [frameOpen_of_active hmode]; exact h

theorem takeOpen_coreInv (h : CoreInv s) : CoreInv (takeAnchor frameOpen s) := by
  obtain ⟨-, htake⟩ | ⟨a, l, -, htake⟩ := takeAnchor_cases frameOpen s
  · rw [htake]; exact h
  · rw [htake]; exact frameOpen_coreInv a (s := setStreams { s.streams with anchor := l } s) h

theorem ppm_coreInv (o : SlotObs) (h : CoreInv s) : CoreInv (ppm o s) := by
  obtain ⟨-, -, hcand, -⟩ := id h
  refine h.of_same (ppm_writes o s).sameControl (ppm_writes o s).samePort ?_
  rw [ppm_eq]
  exact hcand

theorem takePpm_coreInv (h : CoreInv s) : CoreInv (takeSlot ppm s) := by
  unfold takeSlot
  split
  · exact h
  · rename_i o l _
    exact ppm_coreInv o (s := setStreams { s.streams with slot := l } s) h

/-- The candidate of a window holds one symbol per slot, whatever the window. -/
theorem candidateOf_sym_length (s : State) :
    (candidateOf s).sym.length = (candidateOf s).len.slots := by
  have hslots := (slots_bounds s.fr.n).2
  simp only [candidateOf, List.length_take, Vector.length_toList]
  exact min_eq_left hslots

theorem closeFrame_coreInv (h : CoreInv s) : CoreInv (closeFrame s) := by
  obtain ⟨-, -, hcand, -⟩ := id h
  refine h.of_same (closeFrame_writes s).sameControl (closeFrame_writes s).samePort fun c hc => ?_
  obtain hold | hnew := List.mem_append.1 hc
  · exact hcand c hold
  · rw [List.mem_singleton.1 hnew]
    exact candidateOf_sym_length s

theorem completeSlot_coreInv (h : CoreInv s) : CoreInv (completeSlot s) := by
  have hstored : CoreInv (takeSlot ppm (emitSlot (slotObs s.fr) s)) :=
    takePpm_coreInv (s := emitSlot (slotObs s.fr) s) h
  unfold completeSlot
  dsimp only
  split <;> split
  · exact closeFrame_coreInv (s := frameLen _) hstored
  · exact hstored
  · exact closeFrame_coreInv (s := setFr _ _) hstored
  · exact hstored

theorem frameAcc_coreInv (e : EnvSample) (h : CoreInv s) : CoreInv (frameAcc e s) := by
  unfold frameAcc
  dsimp only
  split
  · split
    · exact completeSlot_coreInv (s := setFr _ s) h
    · exact h
  · exact h

end Stages

/-! ## The frame port -/

section Output

variable {s : State}

/-- A record is legal if it is made of one bit per slot and its distance goes with its class (30_encoding R79). -/
theorem frameOf_legal {len : FrameLen} {w : List Bool} {st : ParityStatus} {dist : BitVec 2}
    (a : Anchor) (hw : w.length = len.slots) (hdist : st = .corrected ↔ dist ≠ 0) :
    FrameLegal (frameOf a len w st dist) := by
  refine ⟨fun hshort k hk => ?_, hdist⟩
  rw [frameOf_long] at hshort
  refine frameBits_getLsbD_of_lt ?_
  rw [hw, hshort]
  exact hk

theorem withOutput_coreInv {new : List DecodedFrame} (evs : List Event) (h : CoreInv s)
    (hnew : ∀ f ∈ new, FrameLegal f) : CoreInv (withOutput new evs s) := by
  obtain ⟨hlegal, hfault, hcand, houtq, htaken⟩ := h
  exact ⟨hlegal, hfault, hcand, List.forall_mem_append.2 ⟨houtq, hnew⟩, htaken⟩

theorem emit_coreInv {len : FrameLen} {w : List Bool} {st : ParityStatus} {dist : BitVec 2}
    (a : Anchor) (h : CoreInv s) (hw : w.length = len.slots) (hdist : st = .corrected ↔ dist ≠ 0) :
    CoreInv (emit a len w st dist s) := by
  obtain ⟨-, -, hemit⟩ | ⟨-, hemit⟩ := emit_writes a len w st dist s
  · rw [hemit]; exact h
  · rw [hemit]
    exact withOutput_coreInv [] h (List.forall_mem_singleton.2 (frameOf_legal a hw hdist))

/-- The number of flips that the search finds is no 0 as a distance of two bits. -/
theorem findFlips_dist_ne_zero {p : Params} {c : Candidate} {v : List Bool} {syn : Syndrome}
    {f : List Nat} (hmax : p.maxDist ≤ 3) (h : findFlips p c v syn = some f) :
    BitVec.ofNat 2 f.length ≠ 0 := by
  have hsize := searchOrder_length _ _ f (findFlips_some h).1
  rw [← BitVec.toNat_ne_iff_ne, BitVec.toNat_ofNat]
  show f.length % 4 ≠ 0
  omega

theorem fix_coreInv {c : Candidate} {v : List Bool} (syn : Syndrome) (h : CoreInv s)
    (hv : v.length = c.len.slots) : CoreInv (fix c v syn s) := by
  unfold fix
  split
  · rename_i f hfound
    have hdist := findFlips_dist_ne_zero h.maxDist_le hfound
    exact emit_coreInv c.anchor h ((flipBits_length v f).trans hv) (iff_of_true rfl hdist)
  · exact emit_coreInv c.anchor (s := raise (.uncorrectableFrame c.anchor.position) s) h hv
      (by simp)

theorem crc_coreInv {c : Candidate} (h : CoreInv s) (hc : c.sym.length = c.len.slots) :
    CoreInv (crc c s) := by
  have hv : (provisional c.sym).length = c.len.slots := (List.length_map _).trans hc
  unfold crc
  dsimp only
  split
  · exact emit_coreInv c.anchor (s := raise (.uncorrectableFrame c.anchor.position) s) h hv
      (by simp)
  · split
    · exact emit_coreInv c.anchor h hv (by simp)
    · exact fix_coreInv _ (s := raise (.parityMismatch c.anchor.position _) s) h hv

theorem takeCrc_coreInv (h : CoreInv s) : CoreInv (takeCandidate crc s) := by
  obtain ⟨hlegal, hfault, hcand, hport⟩ := id h
  obtain ⟨-, htake⟩ | ⟨c, l, hc, htake⟩ := takeCandidate_cases crc s
  · rw [htake]; exact h
  · rw [hc] at hcand
    obtain ⟨hfirst, hrest⟩ := List.forall_mem_cons.1 hcand
    rw [htake]
    exact crc_coreInv (s := setStreams { s.streams with candidate := l } s)
      ⟨hlegal, hfault, hrest, hport⟩ hfirst

theorem tick_coreInv (smp : Sample) (h : CoreInv s) : CoreInv (tick smp s) := by
  obtain ⟨e, l, htick⟩ := tick_eq_tickStages smp s
  rw [htick]
  have hedge := edge_coreInv e (s := setStreams { s.streams with envelope := l } s) h
  exact takeCrc_coreInv (frameAcc_coreInv e (takeOpen_coreInv (takeSync_coreInv hedge)))

end Output

/-! ## The commands -/

section Commands

variable {s : State}

theorem truncateStream_coreInv (h : CoreInv s) : CoreInv (truncateStream s) := by
  obtain ⟨-, htrunc⟩ | ⟨-, -, htrunc⟩ := truncateStream_cases s <;> rw [htrunc] <;> exact h

/-- With the run state anything but FAULT and no error code, the error clause holds. -/
theorem CoreInv.running_or_idle {run : RunState} (h : CoreInv s) (hrun : run ≠ .fault) :
    CoreInv { s with run := run, err := .none } := by
  obtain ⟨hlegal, -, hrest⟩ := h
  exact ⟨hlegal, iff_of_false hrun (fun hne => hne rfl), hrest⟩

theorem initPipeline_coreInv (h : CoreInv s) : CoreInv (initPipeline s) := by
  obtain ⟨hlegal, hfault, -, hport⟩ := h
  exact ⟨hlegal, hfault, nofun, hport⟩

theorem startStream_coreInv (h : CoreInv s) : CoreInv (startStream s) := by
  obtain ⟨-, hs⟩ | ⟨-, -, hs⟩ | ⟨-, hcheck, hs⟩ := startStream_cases s
  · rw [hs]; exact h
  · rw [hs]; exact (initPipeline_coreInv h).running_or_idle (run := .running) nofun
  · obtain ⟨hlegal, -, hrest⟩ := h
    rw [hs]; exact ⟨hlegal, iff_of_true rfl hcheck, hrest⟩

/-- A running core shows no error code, so STOP leaves none in IDLE. -/
theorem stopStream_coreInv (h : CoreInv s) : CoreInv (stopStream s) := by
  obtain ⟨-, hs⟩ | ⟨hrun, hs⟩ := stopStream_cases s
  · rw [hs]; exact h
  · obtain ⟨-, hfault, -⟩ := id h
    have herr : (truncateStream s).err = .none := by
      rw [(truncateStream_sameControl s).err]
      by_contra herr
      exact nomatch hrun.symm.trans (hfault.2 herr)
    have hidle := (truncateStream_coreInv h).running_or_idle (run := .idle) nofun
    rwa [← herr, ← hs] at hidle

theorem clearCore_coreInv (h : CoreInv s) : CoreInv (clearCore s) := by
  obtain ⟨hlegal, hfault, hcand, -, htaken⟩ :=
    initPipeline_coreInv ((truncateStream_coreInv h).running_or_idle (run := .idle) nofun)
  exact ⟨hlegal, hfault, hcand, nofun, htaken⟩

theorem hardReset_coreInv (h : CoreInv s) : CoreInv (hardReset s) := by
  obtain ⟨hlegal, -⟩ := id h
  obtain ⟨-, -, -, -, htaken⟩ := truncateStream_coreInv h
  obtain ⟨-, hfault, -⟩ := reset_coreInv
  exact ⟨hlegal, hfault, nofun, nofun, htaken⟩

end Commands

/-! ## Every operation -/

theorem exec_coreInv {i : Instr} {s t : State} (hi : i.WellFormed) (h : CoreInv s)
    (hexec : exec i s = .next t) : CoreInv t := by
  cases i with
  | mag smp => cases hexec; exact h
  | edge e => cases hexec; exact edge_coreInv e h
  | sync p => cases hexec; exact sync_coreInv p h
  | frameOpen a => cases hexec; exact frameOpen_coreInv a h
  | frameAcc e => cases hexec; exact frameAcc_coreInv e h
  | frameLen => cases hexec; exact h
  | ppm o => cases hexec; exact ppm_coreInv o h
  | crc c => cases hexec; exact crc_coreInv h (Candidate.sym_length hi)
  | fix c v syn =>
    cases hexec; exact fix_coreInv syn h (Instr.wellFormed_fix_iff.1 hi).2
  | emit a len w st dist => cases hexec; exact emit_coreInv a h hi.emit_length hi.emit_dist
  | fmtShort low => cases hexec; exact h
  | fmtLong low => cases hexec; exact h
  | wrcfg off v =>
    cases execWrcfg_next hexec
    obtain hw | ⟨-, -, hw⟩ | ⟨-, -, hw⟩ := writeConfig_cases off v s <;> rw [hw] <;> exact h
  | rdreg off => obtain ⟨v, rfl⟩ := execRdreg_next hexec; exact h
  | start ign => cases hexec; exact startStream_coreInv h
  | stop ign => cases hexec; exact stopStream_coreInv h
  | clear ign => cases hexec; exact clearCore_coreInv h
  | reset => cases hexec; exact hardReset_coreInv h
  | nop ign => cases hexec; exact h
  | push smp => obtain ⟨-, rfl⟩ := execPush_next hexec; exact tick_coreInv smp h
  | pop =>
    obtain ⟨hlegal, hfault, hcand, houtq, htaken⟩ := h
    obtain ⟨f, l, hq, rfl⟩ := execPop_next hexec
    rw [hq] at houtq
    obtain ⟨hf, hl⟩ := List.forall_mem_cons.1 houtq
    exact ⟨hlegal, hfault, hcand, hl,
      List.forall_mem_append.2 ⟨htaken, List.forall_mem_singleton.2 hf⟩⟩

/-- Settles O6: what a step performs was decoded, so it is a well-formed operation, and each of those keeps `CoreInv`. -/
theorem stepKeepsCoreInv : Obligations.StepKeepsCoreInv := by
  intro s t h hstep
  refine ⟨?_, step_bench hstep⟩
  obtain ⟨-, ⟨-, -, rfl⟩ | ⟨-, i, rest, hdecode, -, hexec⟩ | ⟨i, rest, hdecode, hexec⟩⟩ :=
    step_cases hstep
  · exact h
  · exact exec_coreInv (decodeTakesWellFormedFront _ _ _ hdecode).1 (s := setOps rest s) h hexec
  · exact exec_coreInv (decodeTakesWellFormedFront _ _ _ hdecode).1 (s := setBench [] s) h hexec

end Sys2Proof.Machine

/-! SUPPORT. What an operation may read (60_exceptions R241, 70_reset_and_hazards R273): of all stages none reads the host's
side or the records that wait at the frame port, so from two states that differ in these alone a stage does the same and
appends the same records. -/

namespace Sys2Proof.Machine

/-! ## Blind functions -/

/-- `s` without what no stage reads: the records at the frame port and the host's side. -/
def readable (s : State) : State := { s with outq := [], host := State.reset.host }

/-- `f` reads neither the frame port nor the host's side: what it leaves elsewhere and what it appends at the port are the
same as from `readable s`. -/
structure Blind (f : State → State) : Prop where
  read : ∀ s, readable (f (readable s)) = readable (f s)
  port : ∀ s, (f s).outq = s.outq ++ (f (readable s)).outq

/-- A function that appends nothing at the port; where it also makes no choice, its equations hold by computation. -/
theorem blind_of_write {f : State → State}
    (hread : ∀ s, readable (f (readable s)) = readable (f s) := by exact fun _ => rfl)
    (hport : ∀ s, (f s).outq = s.outq := by exact fun _ => rfl) : Blind f :=
  ⟨hread, fun s => by rw [hport, hport]; exact (List.append_nil _).symm⟩

theorem blind_id : Blind (fun s => s) := blind_of_write

theorem Blind.comp {f g : State → State} (hg : Blind g) (hf : Blind f) :
    Blind (fun s => g (f s)) where
  read s := by rw [← hg.read, hf.read, hg.read]
  port s := by
    rw [hg.port (f s), hg.port (f (readable s)), hf.read, hf.port s, List.append_assoc]

/-- A choice that does not depend on the port or the host's side. -/
theorem Blind.ite {f g : State → State} {P : State → Prop} {dec : ∀ s, Decidable (P s)}
    (hf : Blind f) (hg : Blind g)
    (hP : ∀ s, P (readable s) = P s := by exact fun _ => rfl) :
    Blind (fun s => if P s then f s else g s) where
  read s := by
    simp only [hP]
    split
    · exact hf.read s
    · exact hg.read s
  port s := by
    simp only [hP]
    split
    · exact hf.port s
    · exact hg.port s

/-- A function that does at each state what some blind function does. -/
theorem blind_of_cases {f : State → State}
    (h : ∀ s, ∃ g, Blind g ∧ f s = g s ∧ f (readable s) = g (readable s)) : Blind f where
  read s := by
    obtain ⟨g, hg, hs, hread⟩ := h s
    rw [hs, hread, hg.read]
  port s := by
    obtain ⟨g, hg, hs, hread⟩ := h s
    rw [hs, hread, hg.port]

theorem logEvent_blind (e : State → Event) : Blind (fun s => logEvent (e s) s) := blind_of_write

theorem setStreams_blind (x : Streams) : Blind (setStreams x) := blind_of_write

/-- A function that takes the oldest record of a stream, if there is one, and gives it to a blind one. -/
theorem blind_of_take {α : Type} {take : State → State} {f : α → State → State}
    (get : Streams → List α) (put : List α → Streams → Streams) (hf : ∀ x, Blind (f x))
    (hnil : ∀ s, get s.streams = [] → take s = s)
    (hcons : ∀ s x l, get s.streams = x :: l →
      take s = f x (setStreams (put l s.streams) s)) : Blind take :=
  blind_of_cases fun s => by
    cases hget : get s.streams with
    | nil => exact ⟨_, blind_id, hnil s hget, hnil (readable s) hget⟩
    | cons x l =>
      exact ⟨_, (hf x).comp (setStreams_blind (put l s.streams)), hcons s x l hget,
        hcons (readable s) x l hget⟩

/-! ## The stages -/

theorem mag_blind (smp : Sample) : Blind (mag smp) := blind_of_write

theorem edgeLow_blind (e old : EnvSample) : Blind (edgeLow e old) :=
  .ite blind_of_write blind_id

theorem edgeRconf_blind (e : EnvSample) : Blind (edgeRconf e) :=
  .ite (.ite blind_of_write blind_of_write) blind_of_write

theorem edgeHigh_blind (e old : EnvSample) : Blind (edgeHigh e old) :=
  .ite blind_of_write (.ite blind_of_write blind_id)

theorem edgeFconf_blind (e : EnvSample) : Blind (edgeFconf e) :=
  .ite (.ite (.ite blind_of_write blind_of_write) blind_of_write) blind_of_write

theorem edge_blind (e : EnvSample) : Blind (edge e) := blind_of_cases fun s => by
  have hread : (readable s).pd = s.pd := rfl
  unfold edge
  rw [hread]
  cases s.pd.mode with
  | low => exact ⟨_, edgeLow_blind e (oldSample s), rfl, rfl⟩
  | rconf => exact ⟨_, edgeRconf_blind e, rfl, rfl⟩
  | high => exact ⟨_, edgeHigh_blind e (oldSample s), rfl, rfl⟩
  | fconf => exact ⟨_, edgeFconf_blind e, rfl, rfl⟩

theorem first_blind (p : Pulse) : Blind (first p) :=
  .ite blind_of_write blind_of_write

theorem sync_blind (p : Pulse) : Blind (sync p) :=
  .ite (first_blind p)
    (.ite (.ite blind_of_write blind_of_write)
      ((first_blind p).comp (logEvent_blind fun s => .syncFail s.ps.k s.ps.p0)))

theorem frameOpen_blind (a : Anchor) : Blind (frameOpen a) := blind_of_cases fun s => by
  have hread : (readable s).fr = s.fr := rfl
  unfold frameOpen
  rw [hread]
  cases s.fr.mode with
  | idle => exact ⟨fun s => setCand CandStore.initial (setFr (openedWindow a) s),
      blind_of_write, rfl, rfl⟩
  | active => exact ⟨_, logEvent_blind fun _ => .anchorDropped a.position, rfl, rfl⟩

theorem ppm_blind (o : SlotObs) : Blind (ppm o) :=
  .ite blind_of_write blind_of_write

theorem selectLength_blind (b : List Bool) : Blind (selectLength b) := blind_of_write

theorem frameLen_blind : Blind frameLen := blind_of_write

theorem closeFrame_blind : Blind closeFrame := blind_of_write

theorem takePpm_blind : Blind (takeSlot ppm) :=
  blind_of_take Streams.slot (fun l x => { x with slot := l }) ppm_blind
    (fun s h => by rw [takeSlot, h]) (fun s o l h => by rw [takeSlot, h])

/-- The end of a slot as its parts: the symbol, the next slot, FRAME.LEN after slot 4, CLOSE after the last slot. -/
theorem completeSlot_blind : Blind completeSlot := by
  have hstored : Blind fun s => takeSlot ppm (emitSlot (slotObs s.fr) s) :=
    takePpm_blind.comp (f := fun s => emitSlot (slotObs s.fr) s)
      blind_of_write
  have hnext : Blind fun s => setFr (nextSlot s.fr) s := blind_of_write
  have hlength : Blind fun s => if s.fr.j.toNat = 5 then frameLen s else s :=
    .ite frameLen_blind blind_id
  have hclose : Blind fun s => if s.fr.j.toNat = s.fr.n.slots then closeFrame s else s :=
    .ite closeFrame_blind blind_id
  exact hclose.comp (hlength.comp (hnext.comp hstored))

theorem frameAcc_blind (e : EnvSample) : Blind (frameAcc e) := by
  have hadd : Blind fun s =>
      setFr (addSample e s.fr (windowIndex s % spu s.fr.rate / half s.fr.rate)) s :=
    blind_of_write
  exact .ite (.ite (completeSlot_blind.comp hadd) hadd) blind_id

theorem emit_blind (a : Anchor) (len : FrameLen) (w : List Bool) (st : ParityStatus)
    (dist : BitVec 2) : Blind (emit a len w st dist) :=
  .ite blind_id ⟨fun _ => rfl, fun _ => rfl⟩

theorem fix_blind (c : Candidate) (v : List Bool) (syn : Syndrome) : Blind (fix c v syn) :=
  blind_of_cases fun s => by
    have hread : (readable s).params = s.params := rfl
    unfold fix
    rw [hread]
    cases findFlips s.params c v syn with
    | some f => exact ⟨_, emit_blind .., rfl, rfl⟩
    | none => exact ⟨_, (emit_blind ..).comp (logEvent_blind fun _ => .uncorrectableFrame _), rfl, rfl⟩

theorem crc_blind (c : Candidate) : Blind (crc c) := blind_of_cases fun s => by
  have hsyn : ∀ syn : Syndrome, Blind fun s =>
      if s.params.maxDist < c.nAmb.toNat then
        emit c.anchor c.len (provisional c.sym) .invalid 0
          (raise (.uncorrectableFrame c.anchor.position) s)
      else if syn = 0 then emit c.anchor c.len (provisional c.sym) .clean 0 s
      else fix c (provisional c.sym) syn (raise (.parityMismatch c.anchor.position syn) s) :=
    fun syn => .ite
      ((emit_blind ..).comp (logEvent_blind fun _ => .uncorrectableFrame c.anchor.position))
      (.ite (emit_blind ..)
        ((fix_blind ..).comp (logEvent_blind fun _ => .parityMismatch c.anchor.position syn)))
  exact ⟨_, hsyn (syndrome s.params.crcPoly (provisional c.sym)), rfl, rfl⟩

/-! ## The tick -/

theorem takeEnvelope_blind {f : EnvSample → State → State} (hf : ∀ e, Blind (f e)) :
    Blind (takeEnvelope f) :=
  blind_of_take Streams.envelope (fun l x => { x with envelope := l }) hf
    (fun s h => by rw [takeEnvelope, h]) (fun s e l h => by rw [takeEnvelope, h])

theorem takePulse_blind {f : Pulse → State → State} (hf : ∀ p, Blind (f p)) :
    Blind (takePulse f) :=
  blind_of_take Streams.pulse (fun l x => { x with pulse := l }) hf
    (fun s h => by rw [takePulse, h]) (fun s p l h => by rw [takePulse, h])

theorem takeAnchor_blind {f : Anchor → State → State} (hf : ∀ a, Blind (f a)) :
    Blind (takeAnchor f) :=
  blind_of_take Streams.anchor (fun l x => { x with anchor := l }) hf
    (fun s h => by rw [takeAnchor, h]) (fun s a l h => by rw [takeAnchor, h])

theorem takeCandidate_blind {f : Candidate → State → State} (hf : ∀ c, Blind (f c)) :
    Blind (takeCandidate f) :=
  blind_of_take Streams.candidate (fun l x => { x with candidate := l }) hf
    (fun s h => by rw [takeCandidate, h]) (fun s c l h => by rw [takeCandidate, h])

theorem tickStages_blind (e : EnvSample) : Blind (tickStages e) := by
  have hend : Blind (endTick e) := blind_of_write
  exact hend.comp ((takeCandidate_blind crc_blind).comp ((frameAcc_blind e).comp
    ((takeAnchor_blind frameOpen_blind).comp ((takePulse_blind sync_blind).comp (edge_blind e)))))

theorem tick_blind (smp : Sample) : Blind (tick smp) :=
  (takeEnvelope_blind tickStages_blind).comp (mag_blind smp)

/-! ## The commands -/

theorem writeConfig_blind (off v : Word) : Blind (writeConfig off v) :=
  .ite (.ite blind_of_write (.ite blind_of_write blind_id)) blind_id

theorem startStream_blind : Blind startStream :=
  .ite (.ite blind_of_write blind_of_write) blind_id

theorem truncateStream_blind : Blind truncateStream :=
  .ite blind_of_write blind_id

theorem stopStream_blind : Blind stopStream := by
  have hidle : Blind fun s => { s with run := .idle } := blind_of_write
  exact .ite (hidle.comp truncateStream_blind) blind_id

/-! ## Two states alike but for the port and the host's side -/

/-- `s₁` and `s₂` differ only in the host's side and in the records at the port, and there only in the `q₁` and `q₂`
that stood there first. -/
structure Alike (q₁ q₂ : List DecodedFrame) (s₁ s₂ : State) : Prop where
  same : readable s₁ = readable s₂
  port : ∃ new, s₁.outq = q₁ ++ new ∧ s₂.outq = q₂ ++ new

section TwoStates

variable {q₁ q₂ : List DecodedFrame} {s₁ s₂ t₁ : State}

theorem Alike.run (h : Alike q₁ q₂ s₁ s₂) : s₁.run = s₂.run :=
  (congrArg (fun s : State => s.run) h.same :)

theorem alike_of_readable (h : readable s₁ = readable s₂) (hq₁ : s₁.outq = q₁)
    (hq₂ : s₂.outq = q₂) : Alike q₁ q₂ s₁ s₂ :=
  ⟨h, [], by rw [hq₁, List.append_nil], by rw [hq₂, List.append_nil]⟩

theorem alike_setHost (s : State) (x : HostSide) : Alike [] [] s (setHost x s) :=
  ⟨rfl, s.outq, rfl, rfl⟩

theorem Alike.eq_setHost (h : Alike [] [] s₁ s₂) : s₂ = setHost s₂.host s₁ := by
  obtain ⟨new, h₁, h₂⟩ := h.port
  have hq : s₂.outq = s₁.outq := h₂.trans h₁.symm
  calc s₂ = { readable s₂ with outq := s₂.outq, host := s₂.host } := rfl
    _ = setHost s₂.host s₁ := by rw [← h.same, hq]; rfl

theorem Blind.alike {f : State → State} (hf : Blind f) (h : Alike q₁ q₂ s₁ s₂) :
    Alike q₁ q₂ (f s₁) (f s₂) where
  same := by rw [← hf.read, h.same, hf.read]
  port := by
    obtain ⟨new, h₁, h₂⟩ := h.port
    refine ⟨new ++ (f (readable s₂)).outq, ?_, ?_⟩
    · rw [hf.port, h.same, h₁, List.append_assoc]
    · rw [hf.port, h₂, List.append_assoc]

/-- An operation that takes nothing from the port. -/
structure TakesNothing (i : Instr) : Prop where
  pop : i ≠ .pop
  reset : i ≠ .reset
  clear : ∀ u, i ≠ .clear u

theorem exec_rdreg_of_word {off : Word} (h : IsWordOffset off) (s : State) :
    ∃ v, exec (.rdreg off) s = .next (setHost { s.host with rdData := v } s) := by
  obtain rfl | rfl | rfl | rfl := h <;> exact ⟨_, rfl⟩

/-- From alike states an operation goes on to alike states, or from neither. -/
theorem exec_alike {i : Instr} (hi : TakesNothing i) (h : Alike q₁ q₂ s₁ s₂)
    (hexec : exec i s₁ = .next t₁) : ∃ t₂, exec i s₂ = .next t₂ ∧ Alike q₁ q₂ t₁ t₂ := by
  cases i with
  | mag smp => cases hexec; exact ⟨_, rfl, (mag_blind smp).alike h⟩
  | edge e => cases hexec; exact ⟨_, rfl, (edge_blind e).alike h⟩
  | sync p => cases hexec; exact ⟨_, rfl, (sync_blind p).alike h⟩
  | frameOpen a => cases hexec; exact ⟨_, rfl, (frameOpen_blind a).alike h⟩
  | frameAcc e => cases hexec; exact ⟨_, rfl, (frameAcc_blind e).alike h⟩
  | frameLen => cases hexec; exact ⟨_, rfl, frameLen_blind.alike h⟩
  | ppm o => cases hexec; exact ⟨_, rfl, (ppm_blind o).alike h⟩
  | crc c => cases hexec; exact ⟨_, rfl, (crc_blind c).alike h⟩
  | fix c v syn => cases hexec; exact ⟨_, rfl, (fix_blind c v syn).alike h⟩
  | emit a len w st dist => cases hexec; exact ⟨_, rfl, (emit_blind a len w st dist).alike h⟩
  | fmtShort low => cases hexec; exact ⟨_, rfl, (selectLength_blind _).alike h⟩
  | fmtLong low => cases hexec; exact ⟨_, rfl, (selectLength_blind _).alike h⟩
  | start ign => cases hexec; exact ⟨_, rfl, startStream_blind.alike h⟩
  | stop ign => cases hexec; exact ⟨_, rfl, stopStream_blind.alike h⟩
  | nop ign => cases hexec; exact ⟨_, rfl, h⟩
  | push smp =>
    obtain ⟨hrun, rfl⟩ := execPush_next hexec
    exact ⟨_, exec_push_running smp (h.run ▸ hrun), (tick_blind smp).alike h⟩
  | wrcfg off v =>
    by_cases hoff : IsWordOffset off
    · cases execWrcfg_next hexec
      exact ⟨_, exec_wrcfg_word hoff v s₂, (writeConfig_blind off v).alike h⟩
    · cases (exec_wrcfg_no_word hoff v s₁).symm.trans hexec
  | rdreg off =>
    by_cases hoff : IsWordOffset off
    · obtain ⟨v, rfl⟩ := execRdreg_next hexec
      obtain ⟨v', hread⟩ := exec_rdreg_of_word hoff s₂
      exact ⟨_, hread, h.same, h.port⟩
    · cases (exec_rdreg_no_word hoff s₁).symm.trans hexec
  | pop => exact absurd rfl hi.pop
  | reset => exact absurd rfl hi.reset
  | clear ign => exact absurd rfl (hi.clear ign)

theorem execAll_alike {l : List Instr} (hl : ∀ i ∈ l, TakesNothing i) (h : Alike q₁ q₂ s₁ s₂)
    (hexec : execAll l s₁ = .next t₁) : ∃ t₂, execAll l s₂ = .next t₂ ∧ Alike q₁ q₂ t₁ t₂ := by
  induction l generalizing s₁ s₂ with
  | nil => cases hexec; exact ⟨s₂, rfl, h⟩
  | cons i l ih =>
    obtain ⟨hi, hl⟩ := List.forall_mem_cons.1 hl
    rw [execAll] at hexec
    split at hexec
    · rename_i u₁ hu₁
      obtain ⟨u₂, hu₂, hu⟩ := exec_alike hi h hu₁
      obtain ⟨t₂, ht₂, ht⟩ := ih hl hu hexec
      exact ⟨t₂, by rw [execAll, hu₂]; exact ht₂, ht⟩
    · cases hexec
    · cases hexec

end TwoStates

/-! ## The host's side -/

theorem exec_pop_of_cons {f : DecodedFrame} {l : List DecodedFrame} {s : State}
    (h : s.outq = f :: l) : exec .pop s =
      .next { s with outq := l, host := { s.host with taken := s.host.taken ++ [f] } } := by
  show execPop s = _
  rw [execPop, h]

theorem clearCore_setHost (x : HostSide) (s : State) :
    ∃ y, clearCore (setHost x s) = setHost y (clearCore s) := by
  have htrunc := (truncateStream_blind.alike (alike_setHost s x)).eq_setHost
  exact ⟨_, by rw [clearCore, htrunc]; rfl⟩

/-- Settles O11: an operation that takes nothing from the port is blind to the host's side; POP takes the same record whatever
the host holds, and what RESET and CLEAR leave of the stream's end is in the log alone. -/
theorem hostSideIsNeverRead : Obligations.HostSideIsNeverRead := by
  intro i s t x hexec
  by_cases hi : TakesNothing i
  · obtain ⟨u, hu, halike⟩ := exec_alike hi (alike_setHost s x) hexec
    rw [halike.eq_setHost] at hu
    exact ⟨_, hu⟩
  · cases i with
    | pop =>
      obtain ⟨f, l, hq, rfl⟩ := execPop_next hexec
      exact ⟨_, exec_pop_of_cons (s := setHost x s) hq⟩
    | clear ign =>
      cases hexec
      obtain ⟨y, hy⟩ := clearCore_setHost x s
      exact ⟨y, congrArg Host.Outcome.next hy⟩
    | reset => cases hexec; exact ⟨_, rfl⟩
    | _ => exact absurd ⟨nofun, nofun, nofun⟩ hi

/-! ## Sessions -/

theorem exec_push_of_stopped (smp : Sample) {s : State} (hrun : s.run ≠ .running) :
    exec (.push smp) s = .refused .sampleNotReady :=
  if_neg (by simpa [sReady] using hrun)

/-- What follows START in a session, on a core that does not run: a PUSH is refused, a STOP ignored. -/
theorem execAll_stream_of_stopped (smps : List Sample) {s : State} (hrun : s.run ≠ .running) :
    execAll (smps.map Instr.push ++ [.stop 0]) s =
      if smps = [] then .next s else .refused .sampleNotReady := by
  cases smps with
  | nil =>
    have hstop : stopStream s = s := if_neg hrun
    exact congrArg Host.Outcome.next hstop
  | cons smp l =>
    have hpush : exec (.push smp) s = .refused .sampleNotReady := exec_push_of_stopped smp hrun
    simp [execAll, hpush]

/-- `s` after an accepted START (47_host_commands R223). -/
def started (s : State) : State :=
  { initPipeline s with cfg := latched s.ctrl, err := .none, run := .running }

theorem startStream_of_accepted {s : State} (hidle : s.run = .idle) (hpass : check s = .none) :
    startStream s = started s :=
  (if_pos hidle).trans (if_pos hpass)

theorem startStream_of_refused {s : State} (hidle : s.run = .idle) (hfail : check s ≠ .none) :
    startStream s =
      logEvent (.configurationError (check s)) { s with run := .fault, err := check s } :=
  (if_pos hidle).trans (if_neg hfail)

theorem stream_takesNothing (smps : List Sample) :
    ∀ i ∈ smps.map Instr.push ++ [.stop 0], TakesNothing i := by
  intro i hi
  obtain hpush | hstop := List.mem_append.1 hi
  · obtain ⟨smp, -, rfl⟩ := List.mem_map.1 hpush
    exact ⟨nofun, nofun, nofun⟩
  · rw [List.mem_singleton.1 hstop]
    exact ⟨nofun, nofun, nofun⟩

/-- An accepted START leaves alike states, whatever an idle core holds but for its configuration. -/
theorem startStream_alike {s₁ s₂ : State} (hidle₁ : s₁.run = .idle) (hidle₂ : s₂.run = .idle)
    (hpass₁ : check s₁ = .none) (hpass₂ : check s₂ = .none) (hctrl : s₁.ctrl = s₂.ctrl)
    (hrate : s₁.srcRate = s₂.srcRate) (hparams : s₁.params = s₂.params) :
    Alike s₁.outq s₂.outq (startStream s₁) (startStream s₂) := by
  rw [startStream_of_accepted hidle₁ hpass₁, startStream_of_accepted hidle₂ hpass₂]
  refine alike_of_readable ?_ rfl rfl
  simp only [readable, started, initPipeline, hctrl, hrate, hparams]

/-- Settles O10: an accepted START leaves alike states, from which the same operations append the same records; a refused one
leaves both cores in FAULT, where only the empty stream completes and appends nothing. -/
theorem sessionOutputIsDetermined : Obligations.SessionOutputIsDetermined := by
  intro smps s₁ s₂ t₁ hidle₁ hidle₂ hctrl hrate hparams hexec
  have hcheck : check s₁ = check s₂ := by rw [check, check, hctrl, hrate]
  have hexec : execAll (smps.map Instr.push ++ [.stop 0]) (startStream s₁) = .next t₁ := hexec
  show ∃ t₂ new, execAll (smps.map Instr.push ++ [.stop 0]) (startStream s₂) = .next t₂ ∧ _
  by_cases hpass : check s₁ = .none
  · obtain ⟨t₂, hexec₂, halike⟩ := execAll_alike (stream_takesNothing smps)
      (startStream_alike hidle₁ hidle₂ hpass (hcheck ▸ hpass) hctrl hrate hparams) hexec
    obtain ⟨new, hout₁, hout₂⟩ := halike.port
    exact ⟨t₂, new, hexec₂, hout₁, hout₂⟩
  · rw [startStream_of_refused hidle₁ hpass, execAll_stream_of_stopped smps (by simp)] at hexec
    rw [startStream_of_refused hidle₂ (hcheck ▸ hpass), execAll_stream_of_stopped smps (by simp)]
    split at hexec
    · rename_i hnone
      cases hexec
      exact ⟨_, [], if_pos hnone, (List.append_nil _).symm, (List.append_nil _).symm⟩
    · cases hexec

end Sys2Proof.Machine

/-! SUPPORT. The ports (47_host_commands R224, R228): a transfer that is not ready, POP as it shows at the port and in STATUS,
and PUSH as one tick that leaves no record between the stages. -/

namespace Sys2Proof.Machine

/-! ## POP -/

theorem exec_pop_of_nil {s : State} (h : s.outq = []) : exec .pop s = .refused .frameNotValid := by
  show execPop s = _
  rw [execPop, h]

/-- Settles O59: neither handshake can complete. -/
theorem portsNotReadyRefuse : Obligations.PortsNotReadyRefuse := fun _ =>
  ⟨fun smp hrun => exec_push_of_stopped smp hrun, exec_pop_of_nil⟩

theorem fAvail_eq_decide (s : State) : fAvail s = decide (s.outq ≠ []) := by
  cases h : s.outq <;> simp [fAvail, h]

/-- `f_avail` is bit 9 of `STATUS` (30_encoding R85). -/
theorem statusWord_fAvail (s : State) : (statusWord s).getLsbD 9 = fAvail s :=
  bit_above (by decide) (bit_above (by decide) (bit_above (by decide) (bit_above (by decide)
    bit_lowest)))

/-- Settles O60: the port shows the head, POP takes it, and STATUS shows what waits then. -/
theorem popTakesHead : Obligations.PopTakesHead := by
  intro f l s hq t
  have hhead : fRecord s = some f := by rw [fRecord, hq]; rfl
  have hvalid : fValid s = true := by rw [fValid, fAvail_eq_decide, hq]; rfl
  exact ⟨hhead, hvalid, exec_pop_of_cons hq, fAvail_eq_decide t,
    (statusWord_fAvail t).trans (fAvail_eq_decide t), rfl⟩

/-! ## PUSH -/

theorem takeCrc_streams {s : State} {cs : List Candidate} (hlen : cs.length ≤ 1)
    (h : s.streams = { Streams.empty with candidate := cs }) :
    (takeCandidate crc s).streams = Streams.empty := by
  obtain rfl : s.streams.candidate = cs := by rw [h]
  obtain ⟨hc, htake⟩ | ⟨c, l, hc, htake⟩ := takeCandidate_cases crc s
  · rw [htake, h, hc]
    rfl
  · cases tail_eq_nil hlen hc
    obtain ⟨new, evs, hcrc, -⟩ := crc_writes c (setStreams { s.streams with candidate := [] } s)
    rw [htake, hcrc, withOutput, setStreams_streams, h]
    rfl

/-- A tick leaves every internal stream empty again (10_state R33). -/
theorem tickStages_streams (e : EnvSample) {s : State} (h : s.streams = Streams.empty) :
    (tickStages e s).streams = Streams.empty := by
  obtain ⟨ps, hps, hpulse⟩ := edge_streams e h
  obtain ⟨as, has, hanchor⟩ := takeSync_streams hps hpulse
  have hopen := takeOpen_streams has hanchor
  obtain ⟨cs, hcs, hcand⟩ := frameAcc_streams e (congrArg Streams.slot hopen)
  rw [hopen] at hcand
  exact takeCrc_streams hcs hcand

/-- Settles O55: what a tick keeps of the control part, of the history and the host's side, of the internal streams and of
the frame port. -/
theorem pushIsOneTick : Obligations.PushIsOneTick := by
  intro smp s hrun hempty
  obtain ⟨u, hcontrol, hu⟩ := tickStages_control (magnitude smp) s
  obtain ⟨v, hhistory, hv⟩ := tickStages_keepsHistory (magnitude smp) s
  obtain ⟨evs, hhost⟩ := hhistory.host
  obtain ⟨-, new, hnew, hlen⟩ := tickStages_growsPort (magnitude smp) s
  have hstreams := tickStages_streams (magnitude smp) hempty
  have hpush : exec (.push smp) s = .next (tickStages (magnitude smp) s) := by
    rw [exec_push_running smp hrun, tick_of_empty smp hempty]
  have hhist : (tickStages (magnitude smp) s).pd.hist = #v[magnitude smp, s.pd.hist[0]] := by
    rw [hv, endTick_pd, ← hhistory.hist]
  have hevents : (tickStages (magnitude smp) s).host = { s.host with log := s.host.log ++ evs } := by
    rw [hv, endTick_host, hhost]
  refine ⟨_, new, evs, hpush, ?_, hhist, hstreams, hnew, hlen, ?_, ?_, ?_, ?_, ?_, ?_, hevents⟩ <;>
    rw [hu]
  · rw [endTick_pos, hcontrol.pos]
  · rw [endTick_run, hcontrol.run, hrun]
  · rw [endTick_ctrl, hcontrol.ctrl]
  · rw [endTick_srcRate, hcontrol.srcRate]
  · rw [endTick_err, hcontrol.err]
  · rw [endTick_cfg, hcontrol.cfg]
  · rw [endTick_params, hcontrol.params]

end Sys2Proof.Machine

/-! SUPPORT. The commands of the host (47_host_commands R223 to R229), one law per case, the three levels of reset compared
(70_reset_and_hazards R271), and the first samples after START (R280). -/

namespace Sys2Proof.Machine

/-! ## START -/

section Start

variable {s : State}

theorem check_of_below (h : s.srcRate.toNat < 8000000) : check s = .rateBelowFloor := if_pos h

/-- Without a resampler the source must have the operating rate (R226). -/
theorem check_of_supported (hfloor : 8000000 ≤ s.srcRate.toNat)
    (h : s.ctrl.resamp = true ∨ s.srcRate.toNat = rateOf s.ctrl.rateSel) : check s = .none := by
  refine (if_neg hfloor.not_gt).trans (if_neg fun ⟨hresamp, hrate⟩ => ?_)
  obtain hyes | heq := h
  · exact nomatch hresamp.symm.trans hyes
  · exact hrate heq

theorem check_of_unsupported (hfloor : 8000000 ≤ s.srcRate.toNat)
    (h : ¬(s.ctrl.resamp = true ∨ s.srcRate.toNat = rateOf s.ctrl.rateSel)) :
    check s = .rateUnsupported := by
  obtain ⟨hresamp, hrate⟩ := not_or.1 h
  exact (if_neg hfloor.not_gt).trans (if_pos ⟨Bool.eq_false_of_not_eq_true hresamp, hrate⟩)

theorem exec_start_of_accepted (u : BitVec 30) (hidle : s.run = .idle) (hpass : check s = .none) :
    exec (.start u) s = .next (started s) :=
  congrArg Host.Outcome.next (startStream_of_accepted hidle hpass)

theorem exec_start_of_refused (u : BitVec 30) {sub : ErrCode} (hidle : s.run = .idle)
    (hsub : check s = sub) (hne : sub ≠ .none) :
    exec (.start u) s = .next
      { s with
        run := .fault, err := sub,
        host := { s.host with log := s.host.log ++ [.configurationError sub] } } := by
  subst hsub
  exact congrArg Host.Outcome.next (startStream_of_refused hidle hne)

end Start

/-- Settles O49: the three answers of the check, and START outside IDLE. -/
theorem startChecksAndLatches : Obligations.StartChecksAndLatches := by
  intro u s fails supported
  exact ⟨fun hrun => congrArg Host.Outcome.next (if_neg hrun),
    fun hidle hbelow => exec_start_of_refused u hidle (check_of_below hbelow) nofun,
    fun hidle hfloor hno => exec_start_of_refused u hidle (check_of_unsupported hfloor hno) nofun,
    fun hidle hfloor hyes => exec_start_of_accepted u hidle (check_of_supported hfloor hyes)⟩

/-- Settles O53: the reset values pass the check. -/
theorem startFromResetRuns : Obligations.StartFromResetRuns :=
  ⟨started State.reset,
    exec_start_of_accepted 0 rfl (check_of_supported (by decide) (.inr (by decide))),
    rfl, rfl, rfl, rfl⟩

theorem execAll_cons {i : Instr} {s t : State} (h : exec i s = .next t) (l : List Instr) :
    execAll (i :: l) s = execAll l t := by rw [execAll, h]

/-- Settles O58: the history after START holds no sample to compare with, so each of two ticks only advances. -/
theorem startUpBlindSpot : Obligations.StartUpBlindSpot := by
  intro a b s hidle hpass
  have hstart := exec_start_of_accepted 0 hidle hpass
  have ha := pushWithoutComparisonSample a (started s) rfl rfl rfl rfl rfl
  have hb := pushWithoutComparisonSample b
    { started s with
      pos := (started s).pos + 1,
      pd := { (started s).pd with hist := #v[magnitude a, (started s).pd.hist[0]] } }
    rfl rfl rfl rfl rfl
  have hall := (execAll_cons hstart _).trans ((execAll_cons ha _).trans (execAll_cons hb []))
  exact ⟨_, hall, rfl, rfl, rfl, rfl, rfl, rfl, rfl⟩

/-! ## STOP -/

theorem exec_stop_of_running (u : BitVec 30) {s : State} (hrun : s.run = .running) :
    exec (.stop u) s = .next { truncateStream s with run := .idle } :=
  congrArg Host.Outcome.next (if_pos hrun)

/-- Settles O50: the two cases of the stream's end. -/
theorem stopDiscardsOpenWindow : Obligations.StopDiscardsOpenWindow := by
  intro u s
  refine ⟨fun hrun => congrArg Host.Outcome.next (if_neg hrun), fun hrun hmode => ?_,
    fun hrun hmode => ?_⟩
  · have htrunc : truncateStream s = s := if_neg fun ⟨_, hactive⟩ => nomatch hmode.symm.trans hactive
    rw [exec_stop_of_running u hrun, htrunc]
  · have htrunc : truncateStream s = raise (.streamTruncation s.fr.anchor.position) s :=
      if_pos ⟨hrun, hmode⟩
    rw [exec_stop_of_running u hrun, htrunc]
    rfl

/-! ## CLEAR -/

/-- CLEAR keeps the configuration and, of the host's side, what the end of the stream leaves (R227). -/
theorem clearCore_eq (s : State) :
    clearCore s =
      { s with
        run := .idle, err := .none, pos := 0, pd := PdState.initial, ps := PsState.initial,
        fr := FrState.initial, cand := CandStore.initial, streams := Streams.empty, outq := [],
        host := (truncateStream s).host } := by
  obtain ⟨-, htrunc⟩ | ⟨-, -, htrunc⟩ := truncateStream_cases s <;> rw [clearCore, htrunc] <;> rfl

/-- `STATUS` of a core at rest: no error code, no window open and no record waiting (30_encoding R85). -/
theorem statusWord_of_rest {s : State} (hrun : s.run = .idle) (herr : s.err = .none)
    (hmode : s.fr.mode = .idle) (hq : s.outq = []) : statusWord s = 0 := by
  rw [statusWord, fAvail, busy, hrun, herr, hmode, hq]
  rfl

/-- Settles O51: what CLEAR leaves is a core at rest. -/
theorem clearEmptiesPipeline : Obligations.ClearEmptiesPipeline := by
  intro u s
  refine ⟨clearCore s, rfl, ?_, congrArg some (statusWord_of_rest rfl rfl rfl rfl)⟩
  rw [clearCore_eq, truncateStream_host]

/-! ## NOP -/

/-- Settles O52: the two low bits 0 are the command NOP. -/
theorem nopChangesNothing : Obligations.NopChangesNothing := by
  intro s
  refine ⟨fun _ => ⟨rfl, rfl⟩, fun v hlow => ?_⟩
  have hnop : Instr.ofBusWrite 0x08 v = .nop (v.extractLsb' 2 30) :=
    (ofBusWrite_cmd v).trans (if_pos ((low_two_bits_eq_iff v 0).1 hlow))
  rw [hnop]
  exact ⟨⟨_, rfl⟩, rfl⟩

/-! ## The levels of reset -/

/-- Settles O54: each row is read off the state that each of the three leaves. -/
theorem threeResetsAgree : Obligations.ThreeResetsAgree := by
  intro u s hidle hpass
  obtain ⟨hrun, -, -, hctrl, hrate, hcfg, -⟩ := clearCore_control s
  have hword : readWord 0x00 (hardReset s) = some 0x00000060 :=
    congrArg some (show ctrlWord Ctrl.initial = 0x00000060 from rfl)
  refine ⟨hardReset s, clearCore s, started s, rfl, rfl, exec_start_of_accepted u hidle hpass, ?_,
    rfl, hrun, rfl, rfl, rfl, rfl, hword, rfl, rfl, hctrl, hrate, hcfg, rfl, rfl, rfl⟩
  simp only [List.forall_mem_cons]
  exact ⟨⟨rfl, rfl, rfl, rfl, rfl, rfl⟩, ⟨rfl, rfl, rfl, rfl, rfl, rfl⟩,
    ⟨rfl, rfl, rfl, rfl, rfl, rfl⟩, List.forall_mem_nil _⟩

end Sys2Proof.Machine

/-! SUPPORT. The words that RDREG returns (30_encoding R82, R85), as the numbers of their fields. -/

namespace Sys2Proof.Machine

theorem toNat_append_eq_add {v w : Nat} (hi : BitVec v) (lo : BitVec w) :
    (hi ++ lo).toNat = hi.toNat * 2 ^ w + lo.toNat := by
  rw [BitVec.toNat_append, ← Nat.shiftLeft_add_eq_or_of_lt lo.isLt, Nat.shiftLeft_eq]

theorem ctrlWord_toNat (c : Ctrl) :
    (ctrlWord c).toNat = c.rateSel.toBit.toNat + 2 * c.resamp.toNat + 4 * c.passAll.toNat +
      16 * c.threshSel.toNat := by
  unfold ctrlWord
  iterate 5 rw [toNat_append_eq_add]
  simp only [BitVec.toNat_ofBool, BitVec.toNat_ofNat]
  omega

theorem statusWord_toNat (s : State) :
    (statusWord s).toNat = (runCode s.run).toNat + 16 * (errCode s.err).toNat +
      256 * (busy s).toNat + 512 * (fAvail s).toNat := by
  unfold statusWord
  iterate 5 rw [toNat_append_eq_add]
  simp only [BitVec.toNat_ofBool, BitVec.toNat_ofNat]
  omega

/-- Settles O46: the offset selects the register, and the word's number is the sum of its fields. -/
theorem registerReadReturnsWord : Obligations.RegisterReadReturnsWord := by
  intro s got
  refine ⟨⟨ctrlWord s.ctrl, rfl, ?_⟩, rfl, rfl, ⟨statusWord s, rfl, ?_⟩⟩
  · rw [ctrlWord_toNat]
    cases s.ctrl.rateSel <;> rfl
  · have hbusy : (busy s).toNat = if s.fr.mode = .active then 1 else 0 := by
      unfold busy; cases s.fr.mode <;> rfl
    have havail : (fAvail s).toNat = if s.outq = [] then 0 else 1 := by
      unfold fAvail; cases s.outq <;> rfl
    rw [statusWord_toNat, hbusy, havail]
    cases s.run <;> cases s.err <;> rfl

end Sys2Proof.Machine

/-! SUPPORT. A step (47_host_commands R220, R230; 60_exceptions R257), one law per case of the queue and the bench of
notes/assumptions/1.md and 4.md. -/

namespace Sys2Proof.Machine

section Step

variable {s : State}

theorem step_of_illegal (h : paramsLegal s.params = false) : step s = .refused .illegalParameters :=
  if_neg (by simp [h])

theorem step_of_empty_bench (hlegal : paramsLegal s.params = true) (hbench : s.host.bench = []) :
    step s = performWaiting s := by
  rw [step, stepQueue, if_pos hlegal, hbench]

theorem step_of_bench (hlegal : paramsLegal s.params = true) (hbench : s.host.bench ≠ []) :
    step s = performBench s.host.bench s := by
  obtain ⟨b, l, hbl⟩ := List.exists_cons_of_ne_nil hbench
  rw [step, stepQueue, if_pos hlegal, hbl]

theorem performWaiting_of_nil (h : s.host.ops = []) : performWaiting s = .next s := by
  rw [performWaiting, h]

theorem performWaiting_of_ok {i : Instr} {rest : List Byte} (h : decode s.host.ops = .ok (i, rest)) :
    performWaiting s = if external i then exec i (setOps rest s) else .refused .notExternal := by
  obtain ⟨b, l, hops, -⟩ := decode_eq_ok_iff.1 h
  rw [hops] at h
  rw [performWaiting, hops]
  simp only [h]

theorem performWaiting_of_error {why : DecodeError} (hne : s.host.ops ≠ [])
    (h : decode s.host.ops = .error why) : performWaiting s = .refused (.undecodable why) := by
  obtain ⟨b, l, hops⟩ := List.exists_cons_of_ne_nil hne
  rw [hops] at h
  rw [performWaiting, hops]
  simp only [h]

end Step

/-- Settles O5: the cases of the queue, and those of the bench. -/
theorem stepPerformsDecodedOperation : Obligations.StepPerformsDecodedOperation := by
  intro s
  refine ⟨step_of_illegal, fun hlegal hbench => ?_, fun hlegal hbench => ?_⟩
  · rw [step_of_empty_bench hlegal hbench]
    refine ⟨fun i rest hdecode hi => ?_, fun i rest hdecode hi => ?_, performWaiting_of_nil,
      fun why => performWaiting_of_error⟩
    · exact (performWaiting_of_ok hdecode).trans (if_pos hi)
    · exact (performWaiting_of_ok hdecode).trans (if_neg (by simp [hi]))
  · rw [step_of_bench hlegal hbench]
    refine ⟨fun i rest hdecode => ?_, fun why hdecode => ?_⟩
    · rw [performBench, hdecode]; rfl
    · rw [performBench, hdecode]

end Sys2Proof.Machine
